-- ==== Sys2Proof/Word.lean ====
section
/-! DEFINITION. The word types of the CORE block: the bus word, the packet byte, the CRC register, the channel
value and the channel code (spec/10_state.md rules R21, R33, R70 to R73; spec/30_encoding.md rule R120). -/

namespace Sys2Proof

/-- One 32-bit bus word: the value a host access carries and the form of a command word (rules R33, R100). -/
abbrev Word := BitVec 32

/-- One byte of `PKT` or `BUF`, and one entry of `SEQ` (rules R71 to R73). -/
abbrev Byte := BitVec 8

/-- The 16-bit cell that holds a CRC table entry or a CRC remainder of any legal width (rules R42, R70). -/
abbrev Hword := BitVec 16

/-- An 11-bit channel value of `CH` or `RXCH` (rules R21, R22). -/
abbrev Chan := BitVec 11

/-- A 10-bit channel code as a packet carries it (rule R120). -/
abbrev Code10 := BitVec 10

end Sys2Proof
end

