-- ==== Sys2Proof/Syntax.lean ====
section
/-! DEFINITION. The instructions of the block: its eleven commands, one constructor per row of
spec/opcode_table.json (spec/30_encoding.md rules R102 to R106). -/

namespace Sys2Proof

/-- A CRC table bank, the `BANK` operand of `CRC.CALC` (rules R103, R157). -/
inductive Bank where
  /-- Bank 0, the host's own: `TAB0`, `CRC0_CFG`. -/
  | bank0
  /-- Bank 1, owned by `OTA.CONFIG`: `TAB1`, `CRC1_CFG`. -/
  | bank1
deriving DecidableEq, Repr

/-- A command of the block (rule R106). The operands are those of the command word; every other operand is a
register that the command's rule names (rule R109). -/
inductive Instr where
  /-- `SYS.NOP` (rule R141). -/
  | sysNop
  /-- `SYS.RESET` (rule R142). -/
  | sysReset
  /-- `CRC.INIT` (rule R155). -/
  | crcInit
  /-- `CRC.CALC b` (rule R160). -/
  | crcCalc (bank : Bank)
  /-- `FHSS.BUILD` (rule R175). -/
  | fhssBuild
  /-- `FHSS.HOP` (rule R185). -/
  | fhssHop
  /-- `OTA.CONFIG m` (rule R201); `mode` is the unsigned number of the field, reserved codes included. -/
  | otaConfig (mode : Nat)
  /-- `OTA.PACK` (rule R203). -/
  | otaPack
  /-- `OTA.SEAL` (rule R230). -/
  | otaSeal
  /-- `OTA.VALIDATE` (rule R251). -/
  | otaValidate
  /-- `OTA.UNPACK` (rule R255). -/
  | otaUnpack
deriving DecidableEq, Repr

/-- Why a command word encodes no command (rule R107). Every one of them is refused with `E_OPCODE`. -/
inductive Illegal where
  /-- The `OP` field names no operation of the opcode map. -/
  | unassignedOpcode
  /-- A bit of `RSV` (bits 31:11) is set. -/
  | reservedBits
  /-- A bit of `ARG` that the command's format requires to be 0 is set. -/
  | nonzeroArgument
deriving DecidableEq, Repr

end Sys2Proof
end

