-- ==== Sys2Proof/WellFormed.lean ====
section
/-! DEFINITION. Which instruction terms have an encoding: the operand fits the field that
spec/30_encoding.md gives it. -/

namespace Sys2Proof

/-- The operand of the instruction fits its field: `MODE` is three bits wide, 0..7 (rule R104). The codes 4 to 7
are well formed: they decode, and the command itself refuses them (rules R104, R201). A `BANK` fits by its type
(rule R103), and the format Z commands have no operand (rule R102). -/
def Instr.wellFormed : Instr → Bool
  | .sysNop => true
  | .sysReset => true
  | .crcInit => true
  | .crcCalc _ => true
  | .fhssBuild => true
  | .fhssHop => true
  | .otaConfig mode => decide (mode < 8)
  | .otaPack => true
  | .otaSeal => true
  | .otaValidate => true
  | .otaUnpack => true

end Sys2Proof
end

