-- ==== Sys2Proof/Decode.lean ====
section
/-! DEFINITION. The decoder of the 32-bit command word, its encoder, and the host's entry to the decoder
(spec/30_encoding.md rules R100 to R107). -/

namespace Sys2Proof

/-- One row of the opcode table: `w` encodes the row's command when `w & mask = pattern` (rule R106). -/
structure Row where
  /-- The row's `match`, the value of the masked word. -/
  pattern : Word
  /-- The row's `mask`. -/
  mask : Word
  /-- The command, with the operand field of the word. -/
  instr : Word → Instr

/-- `BANK`, bit 8 of a format X word (rule R103). -/
def bankField (w : Word) : Bank := if w.getLsbD 8 then .bank1 else .bank0

/-- `MODE`, bits 10:8 of a format M word, an unsigned number (rule R104). -/
def modeField (w : Word) : Nat := (w.extractLsb' 8 3).toNat

/-- The opcode table, in the order of rule R106: format Z rows test the whole word (rule R102), format X leaves
bit 8 free (rule R103), format M leaves bits 10:8 free (rule R104). -/
def opcodeRows : List Row :=
  [ ⟨0x00000000#32, 0xFFFFFFFF#32, fun _ => .sysNop⟩,
    ⟨0x00000001#32, 0xFFFFFFFF#32, fun _ => .sysReset⟩,
    ⟨0x00000010#32, 0xFFFFFFFF#32, fun _ => .crcInit⟩,
    ⟨0x00000011#32, 0xFFFFFEFF#32, fun w => .crcCalc (bankField w)⟩,
    ⟨0x00000020#32, 0xFFFFFFFF#32, fun _ => .fhssBuild⟩,
    ⟨0x00000021#32, 0xFFFFFFFF#32, fun _ => .fhssHop⟩,
    ⟨0x00000030#32, 0xFFFFF8FF#32, fun w => .otaConfig (modeField w)⟩,
    ⟨0x00000031#32, 0xFFFFFFFF#32, fun _ => .otaPack⟩,
    ⟨0x00000032#32, 0xFFFFFFFF#32, fun _ => .otaSeal⟩,
    ⟨0x00000033#32, 0xFFFFFFFF#32, fun _ => .otaValidate⟩,
    ⟨0x00000034#32, 0xFFFFFFFF#32, fun _ => .otaUnpack⟩ ]

/-- The word is one that the row encodes (rule R106). -/
def Row.fits (r : Row) (w : Word) : Bool := w &&& r.mask == r.pattern

/-- Which of the three reasons of rule R107 makes a word that fits no row illegal, the `OP` field first. -/
def illegalReason (w : Word) : Illegal :=
  if opcodeRows.any (fun r => r.pattern == w &&& 0xFF#32) then
    if w >>> 11 == 0#32 then .nonzeroArgument else .reservedBits
  else .unassignedOpcode

/-- Decoding a command word: the command of the row it fits, or the reason it fits none (rules R106, R107). -/
def decode (w : Word) : Except Illegal Instr :=
  match opcodeRows.find? (fun r => r.fits w) with
  | some r => .ok (r.instr w)
  | none => .error (illegalReason w)

/-- The `BANK` bit of a bank, at bit 8 of the word (rule R103). -/
def bankBits : Bank → Word
  | .bank0 => 0x000#32
  | .bank1 => 0x100#32

/-- The command word of an instruction: `match`, and the operand in bits 10:8 (rules R101 to R104, R110). -/
def encode : Instr → Word
  | .sysNop => 0x00000000#32
  | .sysReset => 0x00000001#32
  | .crcInit => 0x00000010#32
  | .crcCalc b => 0x00000011#32 ||| bankBits b
  | .fhssBuild => 0x00000020#32
  | .fhssHop => 0x00000021#32
  | .otaConfig m => 0x00000030#32 ||| (BitVec.ofNat 32 m <<< 8)
  | .otaPack => 0x00000031#32
  | .otaSeal => 0x00000032#32
  | .otaValidate => 0x00000033#32
  | .otaUnpack => 0x00000034#32

/-- The instruction the decoder reads from the `nbits` bits `w`, numbered as the opcode table numbers them, with
every higher bit of the command word 0 (rule R100: a command is one 32-bit word). -/
def decodeTableWord (nbits w : Nat) : Option Instr :=
  match decode (BitVec.ofNat 32 (w % 2 ^ nbits)) with
  | .ok i => some i
  | .error _ => none

end Sys2Proof
end

