-- ==== Sys2Proof/Config.lean ====
section
/-! DEFINITION. The named parameters of spec/00_scope.md rule R6, each with the value that rule fixes for the
block. None of them is a free value: the spec leaves no value of the block open (rule R12). -/

namespace Sys2Proof.Config

/-- `P_NCH`: entries of a ChannelSet (rule R6). -/
def nch : Nat := 16

/-- `P_CH_BITS`: width of a channel value (rule R6). -/
def chBits : Nat := 11

/-- `P_CH_MIN`, the low end of the CRSF channel range (rule R6). -/
def chMin : Nat := 172

/-- `P_CH_MID`, the middle of the CRSF channel range (rule R6). -/
def chMid : Nat := 992

/-- `P_CH_MAX`, the high end of the CRSF channel range (rule R6). -/
def chMax : Nat := 1811

/-- `P_SEQ_MAX`: the longest hop schedule (rule R6). -/
def seqMax : Nat := 256

/-- `P_TAB_LEN`: entries of one CRC table (rule R6, conflict C1). -/
def tabLen : Nat := 256

/-- `P_CRC_WIDTHS`: the legal CRC widths (rules R6, R156). -/
def crcWidths : List Nat := [8, 14, 16]

/-- `P_LEN_COMPACT`: bytes of a compact packet (rule R6). -/
def lenCompact : Nat := 8

/-- `P_LEN_EXTENDED`: bytes of an extended packet (rule R6). -/
def lenExtended : Nat := 13

/-- `P_CRC14_POLY`: the polynomial of the 14-bit OTA CRC (rules R6, R151). -/
def crc14Poly : Hword := 0x2E57#16

/-- `P_CRC16_POLY`: the polynomial of the 16-bit OTA CRC (rules R6, R151). -/
def crc16Poly : Hword := 0x3D65#16

/-- `P_LCG_A`, the multiplier of the schedule's generator (rules R6, R171). -/
def lcgA : Nat := 214013

/-- `P_LCG_C`, the increment of the schedule's generator (rules R6, R171). -/
def lcgC : Nat := 2531011

/-- `P_LCG_M`, the modulus of the schedule's generator (rules R6, R171). -/
def lcgM : Nat := 2 ^ 31

/-- `P_SPREAD_SCALE`: the fixed-point scale of the frequency spread (rule R6). -/
def spreadScale : Nat := 256

/-- `P_SW_LO`: the low end point of the switch quantisers (rule R6). -/
def swLo : Nat := 191

/-- `P_SW_HI`: the high end point of the switch quantisers (rule R6). -/
def swHi : Nat := 1792

/-- `P_BUF_SIZE`: bytes of the CRC input buffer (rule R6). -/
def bufSize : Nat := 256

/-- `P_NBANK`: CRC table banks (rule R6). -/
def nBank : Nat := 2

/-- `P_TYPE_RC`: the packet type code of an RC-data packet (rules R6, R122). -/
def typeRc : BitVec 2 := 0b00#2

/-- `P_HOPINT_MAX`: the largest legal hop interval (rule R6). -/
def hopIntMax : Nat := 63

/-- `P_FSPAN_MAX`: the largest legal `FHSS_FREQ_STOP - FHSS_FREQ_START` (rule R6). -/
def fspanMax : Nat := 2 ^ 24 - 1

end Sys2Proof.Config
end

