-- ==== Sys2Proof/Machine/State.lean ====
section
/-! DEFINITION. The state of the block, register by register as spec/10_state.md names them, the host port's two
fields that are the model's own, the reasons a step can stop, and the state after reset
(spec/70_reset_and_hazards.md rule R311). -/

namespace Sys2Proof.Machine

/-- The result codes, the values `RESULT` and `FIRSTERR` can hold (spec/60_exceptions.md rule R282). The codes 12
to 255 are never produced, so they are no constructor. -/
inductive Code where
  /-- 0 `OK`: the command was accepted. -/
  | ok
  /-- 1 `E_OPCODE`: the command word matches no row of the opcode table. -/
  | eOpcode
  /-- 2 `E_CRC_WIDTH`: `CRC_BITS` is not 8, 14 or 16. -/
  | eCrcWidth
  /-- 3 `E_CRC_POLY`: `CRC_POLY >= 2^CRC_BITS`. -/
  | eCrcPoly
  /-- 4 `E_CRC_NOINIT`: the bank has no table. -/
  | eCrcNoinit
  /-- 5 `E_CRC_LEN`: `CRC_LEN > 256`. -/
  | eCrcLen
  /-- 6 `E_FHSS_DOMAIN`: the channel count or the frequency span is outside the domain. -/
  | eFhssDomain
  /-- 7 `E_FHSS_NOSEQ`: no schedule has been built. -/
  | eFhssNoseq
  /-- 8 `E_OTA_MODE`: the mode operand is 4..7. -/
  | eOtaMode
  /-- 9 `E_OTA_NOCFG`: no mode has been selected. -/
  | eOtaNocfg
  /-- 10 `E_OTA_HOPINT`: the hop-sync value is needed and `FHSS_HOP_INTERVAL` is not in 1..63. -/
  | eOtaHopint
  /-- 11 `E_TX_INFLIGHT`: `CTRL.TX_INFLIGHT = 1`. -/
  | eTxInflight
deriving DecidableEq, Repr

/-- The value of `OTA_MODE`, the four modes of spec/30_encoding.md rule R105. -/
inductive Mode where
  /-- 0 `COMPACT_INDEXED`. -/
  | compactIndexed
  /-- 1 `COMPACT_WIDE`. -/
  | compactWide
  /-- 2 `EXTENDED`. -/
  | extended
  /-- 3 `EXTENDED_16`. -/
  | extended16
deriving DecidableEq, Repr

/-- What `CRC0_CFG` or `CRC1_CFG` holds; its bits 15:5 are no state, they read 0 (rule R43). -/
structure BankCfg where
  /-- `W`, bits 4:0: the bank's width, 0 when the bank was never initialised. -/
  width : BitVec 5
  /-- `P`, bits 31:16: the bank's polynomial. -/
  poly : Hword
deriving DecidableEq, Repr

/-- One thing the world outside does to the block: a host bus access (spec/00_scope.md rule R10) or the hardware
reset of the surrounding system (spec/70_reset_and_hazards.md rule R310). Offsets and widths in bytes are plain
numbers, so that the accesses to which the spec gives no meaning can be written down too (rules R87, R88). -/
inductive Access where
  /-- `MemRead(offset, bytes)` (spec/20_memory.md rule R84). -/
  | read (offset bytes : Nat)
  /-- `MemWrite(offset, bytes, value)` (spec/20_memory.md rule R85). -/
  | write (offset bytes : Nat) (value : Word)
  /-- The event `reset` (rule R310). -/
  | reset
deriving DecidableEq, Repr

/-- Everything the spec gives the block (spec/10_state.md rules R20, R33, R70 to R75), then the model's own host
port. The combinational registers (`FHSS_CHAN`, `FHSS_FREQ`, `FHSS_HOPSYNC`, `OTA_PKT_LEN`, `STATUS.ON_SYNC`,
`STATUS.BUSY`) and `CMD` hold nothing and are computed where they are read (rules R31, R32, R34, R52 to R55, R63). -/
structure State where
  /-- `RESULT` (rule R35). -/
  result : Code
  /-- `FIRSTERR` (rule R36). -/
  firstErr : Code
  /-- `STATUS.ERR`, bit 1 (rules R26, R27). -/
  err : Bool
  /-- `STATUS.CRC_OK`, bit 2 (rule R28). -/
  crcOk : Bool
  /-- `STATUS.RX_UPDATED`, bit 3 (rule R29). -/
  rxUpdated : Bool
  /-- `STATUS.CRC0_VALID`, bit 4 (rule R30). -/
  crc0Valid : Bool
  /-- `STATUS.CRC1_VALID`, bit 5 (rule R30). -/
  crc1Valid : Bool
  /-- `STATUS.FHSS_VALID`, bit 6 (rule R30). -/
  fhssValid : Bool
  /-- `STATUS.OTA_VALID`, bit 7 (rule R30). -/
  otaValid : Bool
  /-- `CTRL.TX_INFLIGHT` (rules R37, R320). -/
  txInflight : Bool
  /-- `CRC_BITS` (rule R38). -/
  crcBits : BitVec 5
  /-- `CRC_POLY` (rule R39). -/
  crcPoly : BitVec 16
  /-- `CRC_LEN` (rule R40). -/
  crcLen : BitVec 9
  /-- `CRC_INITVAL` (rule R41). -/
  crcInitval : BitVec 16
  /-- `CRC_RESULT` (rule R42). -/
  crcResult : BitVec 16
  /-- `CRC0_CFG` (rule R43). -/
  crc0Cfg : BankCfg
  /-- `CRC1_CFG` (rule R43). -/
  crc1Cfg : BankCfg
  /-- `TAB0[0..255]` (rule R70). -/
  tab0 : Vector Hword 256
  /-- `TAB1[0..255]` (rule R70). -/
  tab1 : Vector Hword 256
  /-- `BUF[0..255]` (rule R73). -/
  buf : Vector Byte 256
  /-- `FHSS_SEED` (rule R44). -/
  fhssSeed : BitVec 32
  /-- `FHSS_FREQ_COUNT` (rule R45). -/
  fhssFreqCount : BitVec 9
  /-- `FHSS_FREQ_START` (rule R46). -/
  fhssFreqStart : BitVec 32
  /-- `FHSS_FREQ_STOP` (rule R46). -/
  fhssFreqStop : BitVec 32
  /-- `FHSS_HOP_INTERVAL` (rule R47). -/
  fhssHopInterval : BitVec 8
  /-- `FHSS_SEQ_COUNT` (rule R48). -/
  fhssSeqCount : BitVec 9
  /-- `FHSS_ACT_COUNT` (rule R49). -/
  fhssActCount : BitVec 9
  /-- `FHSS_SYNC` (rule R50). -/
  fhssSync : BitVec 8
  /-- `FHSS_PTR` (rule R51). -/
  fhssPtr : BitVec 8
  /-- `FHSS_SPREAD` (rule R54). -/
  fhssSpread : BitVec 32
  /-- `FHSS_ACT_START` (rule R54). -/
  fhssActStart : BitVec 32
  /-- `SEQ[0..255]`, the hop schedule (rule R71). -/
  seq : Vector Byte 256
  /-- `OTA_MODE` (rule R56). -/
  otaMode : Mode
  /-- `OTA_NONCE` (rule R57). -/
  otaNonce : BitVec 8
  /-- `OTA_TLM_DENOM` (rule R58). -/
  otaTlmDenom : BitVec 8
  /-- `OTA_CRC_INIT` (rule R59). -/
  otaCrcInit : BitVec 16
  /-- `OTA_TXFLAGS.ARMED`, bit 0 (rule R60). -/
  txArmed : Bool
  /-- `OTA_TXFLAGS.TLM`, bit 1 (rule R60). -/
  txTlm : Bool
  /-- `OTA_UPLINK_POWER` (rule R61). -/
  otaUplinkPower : BitVec 6
  /-- `OTA_CURSOR.SWIDX`, bits 2:0 (rule R62). -/
  swIdx : BitVec 3
  /-- `OTA_CURSOR.AUXHALF`, bit 8 (rule R62). -/
  auxHalf : Bool
  /-- `OTA_RXFLAGS.RX_ARMED`, bit 0 (rule R64). -/
  rxArmed : Bool
  /-- `OTA_RXFLAGS.RX_TLM`, bit 1 (rule R64). -/
  rxTlm : Bool
  /-- `OTA_RXFLAGS.RX_HIGHAUX`, bit 2 (rule R64). -/
  rxHighAux : Bool
  /-- `OTA_RX_POWER` (rule R65). -/
  otaRxPower : BitVec 6
  /-- `CH[0..15]` (rule R21). -/
  ch : Vector Chan 16
  /-- `RXCH[0..15]` (rule R22). -/
  rxch : Vector Chan 16
  /-- `PKT[0..12]` (rule R72). -/
  pkt : Vector Byte 13
  /-- THE MODEL'S OWN, no element of the block (log entry 1): the accesses the host has issued and the block has
  not yet taken, in the order of issue (rules R10, R91). -/
  pending : List Access
  /-- THE MODEL'S OWN, no element of the block (log entry 2): the word the port answered to the most recent host
  read, `none` before the first (rule R84). -/
  answer : Option Word
deriving DecidableEq, Repr

/-- A reason the machine stops with a fault. There is none, and none is raised: every command on every state has
one defined outcome and the block takes no trap (rules R12, R280). Safe: nothing is claimed to fault. -/
inductive Fault where
deriving DecidableEq, Repr

/-- A reason the model gives a step no meaning. -/
inductive Refusal where
  /-- An instruction without a meaning in this model; raised by `exec`'s arms only, and by none of them now. Safe:
  nothing can be proved about a step that has no next state. -/
  | notModelled (mnemonic : String)
  /-- A host access that is not 4 bytes wide (rule R87, treatment `refuse` of spec/93_implementation_defined.md U1);
  raised by `access`. Safe: the spec gives the access no meaning. -/
  | reservedWidth (bytes : Nat)
  /-- A host access whose offset is not a multiple of 4 (rule R87, U1); raised by `access`. Safe, as above. -/
  | reservedAlignment (offset : Nat)
  /-- A host access to an offset that is neither a register nor inside an array window, or that lies outside the
  window of 0x1400 bytes (rule R88, U2); raised by `access`. Safe, as above. -/
  | reservedOffset (offset : Nat)
deriving DecidableEq, Repr

/-- The block after reset: every bit of state is 0 (rule R311); the host port is idle (log entries 1 and 2). -/
def State.reset : State where
  result := .ok
  firstErr := .ok
  err := false
  crcOk := false
  rxUpdated := false
  crc0Valid := false
  crc1Valid := false
  fhssValid := false
  otaValid := false
  txInflight := false
  crcBits := 0
  crcPoly := 0
  crcLen := 0
  crcInitval := 0
  crcResult := 0
  crc0Cfg := ⟨0, 0⟩
  crc1Cfg := ⟨0, 0⟩
  tab0 := Vector.replicate 256 0
  tab1 := Vector.replicate 256 0
  buf := Vector.replicate 256 0
  fhssSeed := 0
  fhssFreqCount := 0
  fhssFreqStart := 0
  fhssFreqStop := 0
  fhssHopInterval := 0
  fhssSeqCount := 0
  fhssActCount := 0
  fhssSync := 0
  fhssPtr := 0
  fhssSpread := 0
  fhssActStart := 0
  seq := Vector.replicate 256 0
  otaMode := .compactIndexed
  otaNonce := 0
  otaTlmDenom := 0
  otaCrcInit := 0
  txArmed := false
  txTlm := false
  otaUplinkPower := 0
  swIdx := 0
  auxHalf := false
  rxArmed := false
  rxTlm := false
  rxHighAux := false
  otaRxPower := 0
  ch := Vector.replicate 16 0
  rxch := Vector.replicate 16 0
  pkt := Vector.replicate 13 0
  pending := []
  answer := none

end Sys2Proof.Machine
end

