-- ==== Sys2Proof/Machine/Flags.lean ====
section
/-! DEFINITION. The flags of the block: the bits of `STATUS`, the one flag that is computed (`ON_SYNC`), the
numbers of the result codes and the test that gates the OTA commands on the hop interval
(spec/10_state.md rules R26 to R36, spec/43_ota_encode.md rule R227, spec/60_exceptions.md rule R282). -/

namespace Sys2Proof.Machine

/-- The number of a result code, as `RESULT` and `FIRSTERR` read it (rule R282). -/
def Code.num : Code → BitVec 8
  | .ok => 0
  | .eOpcode => 1
  | .eCrcWidth => 2
  | .eCrcPoly => 3
  | .eCrcNoinit => 4
  | .eCrcLen => 5
  | .eFhssDomain => 6
  | .eFhssNoseq => 7
  | .eOtaMode => 8
  | .eOtaNocfg => 9
  | .eOtaHopint => 10
  | .eTxInflight => 11

/-- `FHSS_CHAN`: the channel index at the pointer, `SEQ[FHSS_PTR]` (rule R52). -/
def State.fhssChan (s : State) : Byte := s.seq[s.fhssPtr.toNat]'s.fhssPtr.isLt

/-- `STATUS.ON_SYNC`: a schedule has been built and the entry at the pointer is the sync channel (rule R31). -/
def State.onSync (s : State) : Bool := s.fhssValid && s.fhssChan == s.fhssSync

/-- `STATUS.BUSY` always reads 0 (rule R32). -/
def State.busy (_ : State) : Bool := false

/-- `STATUS`, nine bits: bit 0 `BUSY` up to bit 8 `ON_SYNC` (rule R26). -/
def State.status (s : State) : BitVec 9 :=
  BitVec.ofBool s.onSync ++ BitVec.ofBool s.otaValid ++ BitVec.ofBool s.fhssValid ++ BitVec.ofBool s.crc1Valid
    ++ BitVec.ofBool s.crc0Valid ++ BitVec.ofBool s.rxUpdated ++ BitVec.ofBool s.crcOk ++ BitVec.ofBool s.err
    ++ BitVec.ofBool s.busy

/-- The valid flag of a bank: `STATUS.CRC0_VALID` or `STATUS.CRC1_VALID` (rule R30). -/
def State.bankValid (s : State) : Bank → Bool
  | .bank0 => s.crc0Valid
  | .bank1 => s.crc1Valid

/-- `FHSS_HOP_INTERVAL` is in 1..63, the range in which the hop-sync value fits six bits (rule R227). -/
def State.hopIntervalLegal (s : State) : Bool :=
  decide (1 ≤ s.fhssHopInterval.toNat ∧ s.fhssHopInterval.toNat ≤ Config.hopIntMax)

/-- The packet in `PKT` is an RC-data packet: its type field is `P_TYPE_RC` (rule R122). -/
def State.pktIsRc (s : State) : Bool := s.pkt[0].extractLsb' 0 2 == Config.typeRc

/-- The CRC of the packet in `PKT` would need the hop-sync value: mode 1 and an RC-data packet (rules R226, R227). -/
def State.needsHopSync (s : State) : Bool := s.otaMode == .compactWide && s.pktIsRc

end Sys2Proof.Machine
end

