-- ==== Sys2Proof/Machine/Operands.lean ====
section
/-! DEFINITION. The operand forms of the commands: mode and bank registers, the channel and switch codes of the
OTA packets, their packing, the channel groups, and the values computed from registers at use
(spec/10_state.md rules R43, R52 to R56, R62, R63; spec/30_encoding.md rules R105, R120, R129;
spec/43_ota_encode.md rules R205 to R223; spec/44_ota_decode.md rules R261, R263, R266). -/

namespace Sys2Proof.Machine

/-! ## Modes and banks -/

/-- The code of a mode, the value of `OTA_MODE` (rule R105). -/
def Mode.code : Mode → BitVec 2
  | .compactIndexed => 0
  | .compactWide => 1
  | .extended => 2
  | .extended16 => 3

/-- The mode that a `MODE` operand selects; the codes from 4 up are reserved and select none (rules R104, R105). -/
def modeOfOperand : Nat → Option Mode
  | 0 => some .compactIndexed
  | 1 => some .compactWide
  | 2 => some .extended
  | 3 => some .extended16
  | _ => none

/-- The mode belongs to the compact family, modes 0 and 1 (rule R105). -/
def Mode.isCompact : Mode → Bool
  | .compactIndexed => true
  | .compactWide => true
  | .extended => false
  | .extended16 => false

/-- The width and polynomial that `OTA.CONFIG` gives bank 1: 14 bits in the compact family, 16 in the extended
family (rule R201). -/
def Mode.bankCfg (m : Mode) : BankCfg :=
  if m.isCompact then ⟨14, Config.crc14Poly⟩ else ⟨16, Config.crc16Poly⟩

/-- The bytes of a packet of the mode (rules R63, R105). -/
def Mode.pktLen (m : Mode) : Nat := if m.isCompact then Config.lenCompact else Config.lenExtended

/-- `OTA_PKT_LEN`: 0 while no mode is selected, else the packet length of the mode (rule R63). -/
def State.otaPktLen (s : State) : BitVec 4 := if s.otaValid then BitVec.ofNat 4 s.otaMode.pktLen else 0

/-- `CRC0_CFG` or `CRC1_CFG` as a word: `P` in bits 31:16, `W` in bits 4:0, bits 15:5 read 0 (rule R43). -/
def BankCfg.word (c : BankCfg) : Word := c.poly ++ 0#11 ++ c.width

/-- The configuration register of a bank (rule R43). -/
def State.bankCfg (s : State) : Bank → BankCfg
  | .bank0 => s.crc0Cfg
  | .bank1 => s.crc1Cfg

/-- The table of a bank (rule R70). -/
def State.bankTab (s : State) : Bank → Vector Hword 256
  | .bank0 => s.tab0
  | .bank1 => s.tab1

/-! ## Values computed from registers at use -/

/-- `FHSS_FREQ`: `trunc_32(FHSS_ACT_START + (FHSS_SPREAD * FHSS_CHAN) / 256)` (rules R53, R187). -/
def State.fhssFreq (s : State) : BitVec 32 :=
  BitVec.ofNat 32 (s.fhssActStart.toNat + s.fhssSpread.toNat * s.fhssChan.toNat / Config.spreadScale)

/-- `FHSS_HOPSYNC`, seven bits: 0 when the hop interval is 0, else `(OTA_NONCE mod FHSS_HOP_INTERVAL) + 1` (rules R55,
R189). DEDUCED, log entry 5: a value above 127, which only an interval above 127 gives, loses its bit 7, because bits
above a register's width read 0 (rule R33). -/
def State.hopSync (s : State) : BitVec 7 :=
  if s.fhssHopInterval = 0 then 0
  else BitVec.ofNat 7 (s.otaNonce.toNat % s.fhssHopInterval.toNat + 1)

/-- `OTA_CURSOR`: `SWIDX` in bits 2:0, `AUXHALF` in bit 8, bits 7:3 read 0 (rule R62). -/
def State.otaCursor (s : State) : BitVec 9 := BitVec.ofBool s.auxHalf ++ 0#5 ++ s.swIdx

/-- `OTA_TXFLAGS`: `ARMED` in bit 0, `TLM` in bit 1 (rule R60). -/
def State.txFlags (s : State) : BitVec 2 := BitVec.ofBool s.txTlm ++ BitVec.ofBool s.txArmed

/-- `OTA_RXFLAGS`: `RX_ARMED` in bit 0, `RX_TLM` in bit 1, `RX_HIGHAUX` in bit 2 (rule R64). -/
def State.rxFlags (s : State) : BitVec 3 :=
  BitVec.ofBool s.rxHighAux ++ BitVec.ofBool s.rxTlm ++ BitVec.ofBool s.rxArmed

/-- The telemetry bit travels in every packet of mode 1: `1 < OTA_TLM_DENOM < 8` (rule R215). -/
def State.tlmEvery (s : State) : Bool := decide (1 < s.otaTlmDenom.toNat ∧ s.otaTlmDenom.toNat < 8)

/-! ## Channel codes -/

/-- `clamp(v, lo, hi) = min(max(v, lo), hi)` (spec/00_scope.md rule R8). -/
def clamp (v lo hi : Nat) : Nat := min (max v lo) hi

/-- The compact decimator `enc10_limit` (rule R205). -/
def enc10Limit (x : Chan) : Code10 :=
  BitVec.ofNat 10 (((clamp x.toNat Config.chMin Config.chMax - Config.chMin) * 2046 / 1639 + 1) / 2)

/-- The compact expander `dec10_limit` (rule R261). -/
def dec10Limit (v : Code10) : Chan := BitVec.ofNat 11 ((v.toNat * 3278 / 1023 + 345) / 2)

/-- The extended decimator `enc10_trunc`, `x >> 1` (rule R223). -/
def enc10Trunc (x : Chan) : Code10 := (x >>> 1).setWidth 10

/-- The extended expander `dec10_trunc`, `v << 1` (rule R266). -/
def dec10Trunc (v : Code10) : Chan := v.setWidth 11 <<< 1

/-- The switch quantiser `to_n(x, n)`, a code below `n` (rule R207). -/
def toN (x : Chan) (n : Nat) : Nat :=
  if x.toNat ≤ Config.swLo then 0
  else if Config.swHi ≤ x.toNat then n - 1
  else (x.toNat - Config.swLo) * n / 1602

/-- The switch expander `from_n(v, vmax)` (rule R263). -/
def fromN (v vmax : Nat) : Chan := BitVec.ofNat 11 (v * 1601 / vmax + Config.swLo)

/-- The uplink power field of the extended family, `clamp(OTA_UPLINK_POWER, 1, 8) - 1` (rule R221). -/
def powerField (p : BitVec 6) : BitVec 3 := BitVec.ofNat 3 (clamp p.toNat 1 8 - 1)

/-- The nonce-to-index map of the Wide policy, `wide_index(n)` (rule R214). -/
def wideIndex (n : BitVec 8) : BitVec 3 := BitVec.ofNat 3 ((n.toNat % 8 + n.toNat / 8 % 2) % 8)

/-! ## Packing -/

/-- `pack4x10(c0, c1, c2, c3)` as the 40-bit number `A` of rule R120; byte `b_j` of the region is bits `8j+7:8j`. -/
def pack4x10 (c0 c1 c2 c3 : Code10) : BitVec 40 := c3 ++ c2 ++ c1 ++ c0

/-- Byte `b_j` of a 40-bit packed number (rule R120). -/
def packedByte (a : BitVec 40) (j : Nat) : Byte := a.extractLsb' (8 * j) 8

/-- Code `c_k` of a 40-bit packed number, `unpack4x10` (rule R120). -/
def packedCode (a : BitVec 40) (k : Nat) : Code10 := a.extractLsb' (10 * k) 10

/-- The five bytes `PKT[a .. a+4]` read as one little-endian number (spec/20_memory.md rule R81). -/
def regionNumber (b0 b1 b2 b3 b4 : Byte) : BitVec 40 := b4 ++ b3 ++ b2 ++ b1 ++ b0

/-- The number in `PKT[1..5]`, the channel field of a compact packet and the low group of an extended one
(rules R121, R128). -/
def lowRegion (p : Vector Byte 13) : BitVec 40 := regionNumber p[1] p[2] p[3] p[4] p[5]

/-- The number in `PKT[6..10]`, the high group of an extended packet (rule R128). -/
def highRegion (p : Vector Byte 13) : BitVec 40 := regionNumber p[6] p[7] p[8] p[9] p[10]

/-! ## Which channels a packet carries -/

/-- Where a channel group may begin: four channels from there on exist. -/
abbrev GroupBase := Fin 13

/-- The group offsets `(lo, hi)` of an extended packet, by mode (`sixteen` for mode 3) and aux half
(rules R129, R220). -/
def groupOffsets (sixteen half : Bool) : GroupBase × GroupBase :=
  match sixteen, half with
  | false, false => (0, 5)
  | false, true => (0, 9)
  | true, false => (0, 4)
  | true, true => (8, 12)

/-- Channel `base + k` of a group. -/
def groupChan (ch : Vector Chan 16) (base : GroupBase) (k : Fin 4) : Chan := ch[base.val + k.val]

/-- `pack4x10` of the four channels of a group under a decimator (rules R204, R219). -/
def packGroup (enc : Chan → Code10) (ch : Vector Chan 16) (base : GroupBase) : BitVec 40 :=
  pack4x10 (enc (groupChan ch base 0)) (enc (groupChan ch base 1)) (enc (groupChan ch base 2))
    (enc (groupChan ch base 3))

/-- The receive channels after the four codes of a packed number are expanded into `base .. base+3`
(rules R260, R265). -/
def unpackGroup (dec : Code10 → Chan) (rx : Vector Chan 16) (base : GroupBase) (a : BitVec 40) : Vector Chan 16 :=
  (((rx.set base.val (dec (packedCode a 0))).set (base.val + 1) (dec (packedCode a 1))).set (base.val + 2)
    (dec (packedCode a 2))).set (base.val + 3) (dec (packedCode a 3))

/-- The channel number that a switch index names, `5 + i` (rule R209). -/
def switchChan (i : BitVec 3) : Fin 16 := ⟨5 + i.toNat, by have := i.isLt; omega⟩

end Sys2Proof.Machine
end

