-- ==== Sys2Proof/Machine/Ops.lean ====
section
/-! DEFINITION. The operations the commands share: accepting and refusing a command (the block's only exception,
spec/60_exceptions.md rules R280, R281; there is no return from one, rule R292), reset, the CRC algorithm
(spec/41_crc.md), the schedule generator (spec/42_fhss.md), and the packet CRC (spec/43_ota_encode.md rules R225 to
R229, spec/44_ota_decode.md rule R252). -/

namespace Sys2Proof.Machine

/-! ## The outcome of a command -/

/-- An accepted command writes `RESULT <- 0` and leaves `STATUS.ERR` and `FIRSTERR` as they were (rule R140). -/
def State.accept (s : State) : State := { s with result := .ok }

/-- A refusal with code `c`: `RESULT <- c`, `STATUS.ERR <- 1`, `FIRSTERR <- c` if it was 0, and nothing else
(rule R281). -/
def State.refuse (s : State) (c : Code) : State :=
  { s with result := c, err := true, firstErr := if s.firstErr = .ok then c else s.firstErr }

/-- Every element of the block takes its reset value (rules R142, R310, R311); the model's own host port, which is
no element of the block, keeps its contents (log entries 1 and 2). -/
def State.blockReset (s : State) : State := { State.reset with pending := s.pending, answer := s.answer }

/-! ## CRC -/

/-- `trunc_W(v) = v mod 2^W` of a value held in the 16-bit cell (spec/00_scope.md rule R8). -/
def truncW (w : Nat) (v : Hword) : Hword := (v.setWidth w).setWidth 16

/-- The width is one of 8, 14 and 16 (rule R156). -/
def crcWidthLegal (w : Nat) : Bool := Config.crcWidths.contains w

/-- One step of the bitwise division: shift left, and subtract the polynomial when the top bit was set
(rule R152). -/
def divStep (w : Nat) (p r : Hword) : Hword :=
  if r.getLsbD (w - 1) then truncW w (r <<< 1) ^^^ p else truncW w (r <<< 1)

/-- `tabentry(W, P, i)`: the byte in the top 8 bits of the register, then eight division steps (rule R152). -/
def tabEntry (w : Nat) (p : Hword) (i : Byte) : Hword :=
  Nat.iterate (divStep w p) 8 (truncW w (i.setWidth 16 <<< (w - 8)))

/-- The whole table of a width and polynomial, one entry per byte value (rule R153). -/
def crcTable (w : Nat) (p : Hword) : Vector Hword 256 := Vector.ofFn fun i => tabEntry w p (BitVec.ofNat 8 i.val)

/-- The table index of a fold step, `(c >> (W - 8)) ^ d` (rule R154). -/
def foldIndex (w : Nat) (c : Hword) (d : Byte) : Byte := (c >>> (w - 8)).setWidth 8 ^^^ d

/-- `foldstep(W, T, c, d)` (rule R154). -/
def foldStep (w : Nat) (t : Vector Hword 256) (c : Hword) (d : Byte) : Hword :=
  truncW w (c <<< 8) ^^^ t[(foldIndex w c d).toNat]'(foldIndex w c d).isLt

/-- The fold of a table across bytes in ascending order, from an initial value truncated to the width
(rules R160, R162). -/
def crcFold (w : Nat) (t : Vector Hword 256) (init : Hword) (bytes : List Byte) : Hword :=
  bytes.foldl (foldStep w t) (truncW w init)

/-! ## The hop schedule -/

/-- The schedule length `count(N) = (256 / N) * N` (rule R172). -/
def seqCount (n : Nat) : Nat := Config.seqMax / n * n

/-- The sync channel `sync(N) = N / 2` (rule R173). -/
def syncChan (n : Nat) : Nat := n / 2

/-- One step of the generator, `rng' = (P_LCG_A * rng + P_LCG_C) mod P_LCG_M`; the 31-bit width is the modulus
(rule R171). -/
def rngStep (rng : BitVec 31) : BitVec 31 := BitVec.ofNat 31 ((Config.lcgA * rng.toNat + Config.lcgC) % Config.lcgM)

/-- The output of a generator state, `rng' >> 16` (rule R171). -/
def rngOut (rng : BitVec 31) : Nat := rng.toNat >>> 16

/-- The initial fill: position 0 of every block holds the sync channel, its own place holds channel 0, and the
entries past the schedule are 0 (rules R174, R175). -/
def seqFill (n : Nat) : Vector Byte 256 :=
  Vector.ofFn fun i =>
    if i.val < seqCount n then
      if i.val % n = 0 then BitVec.ofNat 8 (syncChan n)
      else if i.val % n = syncChan n then 0
      else BitVec.ofNat 8 (i.val % n)
    else 0

/-- Position `i` of the swap pass: nothing at position 0 of a block, else one generator step and one swap inside the
block (rule R175). -/
def swapStep (n : Nat) (st : Vector Byte 256 × BitVec 31) (i : Nat) : Vector Byte 256 × BitVec 31 :=
  if i % n = 0 then st
  else
    (st.1.swapIfInBounds i (i / n * n + (rngOut (rngStep st.2) % (n - 1) + 1)), rngStep st.2)

/-- The schedule of a seed and a channel count: the fill, then the swap pass in ascending order with the generator
carried over from block to block (rule R175). -/
def buildSeq (seed : BitVec 32) (n : Nat) : Vector Byte 256 :=
  ((List.range (seqCount n)).foldl (swapStep n) (seqFill n, seed.setWidth 31)).1

/-- The frequency spread `((stop - start) * 256) / (N - 1)` (rule R181). -/
def freqSpread (start stop : BitVec 32) (n : Nat) : BitVec 32 :=
  BitVec.ofNat 32 ((stop.toNat - start.toNat) * Config.spreadScale / (n - 1))

/-- The domain checks of `FHSS.BUILD`: the count in 2..256, stop not below start, the span at most `2^24 - 1`
(rules R175, R176). -/
def State.fhssDomainLegal (s : State) : Bool :=
  decide (2 ≤ s.fhssFreqCount.toNat ∧ s.fhssFreqCount.toNat ≤ Config.seqMax ∧
    s.fhssFreqStart.toNat ≤ s.fhssFreqStop.toNat ∧
    s.fhssFreqStop.toNat - s.fhssFreqStart.toNat ≤ Config.fspanMax)

/-! ## The packet CRC -/

/-- `SUB`, the six bits that stand in the header's high bits while a compact CRC is computed: the hop-sync value for
an RC-data packet in mode 1, else 0 (rule R226). -/
def State.crcSub (s : State) : BitVec 6 := if s.needsHopSync then s.hopSync.setWidth 6 else 0

/-- The header byte the compact CRC is computed with, a local value: `PKT[0]` is not written (rules R225, R228). -/
def State.crcHeader (s : State) : Byte := s.crcSub ++ s.pkt[0].extractLsb' 0 2

/-- `pktcrc()`: bytes 0..6 with the substituted header in the compact family, bytes 0..10 as they are in the extended
family, over bank 1's table from `OTA_CRC_INIT` (rule R225). -/
def State.pktCrc (s : State) : Hword :=
  if s.otaMode.isCompact then
    crcFold 14 s.tab1 s.otaCrcInit (s.crcHeader :: (s.pkt.toList.drop 1).take 6)
  else
    crcFold 16 s.tab1 s.otaCrcInit (s.pkt.toList.take 11)

/-- `storedcrc()`: the high 6 bits from the header and the low 8 from byte 7, or bytes 12 and 11 (rule R252). -/
def State.storedCrc (s : State) : Hword :=
  if s.otaMode.isCompact then (s.pkt[0].extractLsb' 2 6 ++ s.pkt[7]).setWidth 16
  else s.pkt[12] ++ s.pkt[11]

/-- The packet with its CRC field replaced by the CRC of the packet, `seal()` (rule R229). -/
def State.sealedPkt (s : State) : Vector Byte 13 :=
  if s.otaMode.isCompact then
    (s.pkt.set 0 (s.pktCrc.extractLsb' 8 6 ++ s.pkt[0].extractLsb' 0 2)).set 7 (s.pktCrc.extractLsb' 0 8)
  else
    (s.pkt.set 11 (s.pktCrc.extractLsb' 0 8)).set 12 (s.pktCrc.extractLsb' 8 8)

/-- The CRC check of the receive commands (rule R251). -/
def State.crcMatches (s : State) : Bool := s.pktCrc == s.storedCrc

end Sys2Proof.Machine
end

