-- ==== Sys2Proof/Machine/Crc.lean ====
section
/-! DEFINITION. The CRC unit's commands: `CRC.INIT` and `CRC.CALC` (spec/41_crc.md rules R155, R160). -/

namespace Sys2Proof.Machine

/-- `CRC.INIT`: the width check, the polynomial check, then bank 0 takes the table, its configuration and its valid
flag (rule R155). -/
def execCrcInit (s : State) : Host.Outcome State Fault Refusal :=
  .next <|
    if !crcWidthLegal s.crcBits.toNat then s.refuse .eCrcWidth
    else if 2 ^ s.crcBits.toNat ≤ s.crcPoly.toNat then s.refuse .eCrcPoly
    else
      ({ s with
          tab0 := crcTable s.crcBits.toNat s.crcPoly
          crc0Cfg := ⟨s.crcBits, s.crcPoly⟩
          crc0Valid := true } : State).accept

/-- `CRC.CALC b`: the bank must hold a table, the length must be at most 256; the result is the fold of the bank's
table over `BUF[0 .. CRC_LEN-1]` (rule R160). -/
def execCrcCalc (b : Bank) (s : State) : Host.Outcome State Fault Refusal :=
  .next <|
    if !s.bankValid b then s.refuse .eCrcNoinit
    else if Config.bufSize < s.crcLen.toNat then s.refuse .eCrcLen
    else
      ({ s with
          crcResult :=
            crcFold (s.bankCfg b).width.toNat (s.bankTab b) s.crcInitval (s.buf.toList.take s.crcLen.toNat)
        } : State).accept

end Sys2Proof.Machine
end

