-- ==== Sys2Proof/Machine/Fhss.lean ====
section
/-! DEFINITION. The FHSS unit's commands: `FHSS.BUILD` and `FHSS.HOP` (spec/42_fhss.md rules R175, R185). -/

namespace Sys2Proof.Machine

/-- `FHSS.BUILD`: the in-flight check, the domain checks, then the whole schedule state (rule R175). -/
def execFhssBuild (s : State) : Host.Outcome State Fault Refusal :=
  .next <|
    if s.txInflight then s.refuse .eTxInflight
    else if !s.fhssDomainLegal then s.refuse .eFhssDomain
    else
      ({ s with
          seq := buildSeq s.fhssSeed s.fhssFreqCount.toNat
          fhssSeqCount := BitVec.ofNat 9 (seqCount s.fhssFreqCount.toNat)
          fhssActCount := s.fhssFreqCount
          fhssSync := BitVec.ofNat 8 (syncChan s.fhssFreqCount.toNat)
          fhssActStart := s.fhssFreqStart
          fhssSpread := freqSpread s.fhssFreqStart s.fhssFreqStop s.fhssFreqCount.toNat
          fhssPtr := 0
          fhssValid := true } : State).accept

/-- `FHSS.HOP`: a schedule must have been built; the pointer advances by one modulo the schedule length
(rule R185). -/
def execFhssHop (s : State) : Host.Outcome State Fault Refusal :=
  .next <|
    if !s.fhssValid then s.refuse .eFhssNoseq
    else ({ s with fhssPtr := BitVec.ofNat 8 ((s.fhssPtr.toNat + 1) % s.fhssSeqCount.toNat) } : State).accept

end Sys2Proof.Machine
end

