-- ==== Sys2Proof/Machine/OtaRx.lean ====
section
/-! DEFINITION. The OTA unit, receive side: `OTA.VALIDATE` and `OTA.UNPACK`
(spec/44_ota_decode.md rules R251, R255). -/

namespace Sys2Proof.Machine

/-- `OTA.VALIDATE`: the checks of `OTA.SEAL`, then `STATUS.CRC_OK` takes the outcome of the comparison; a mismatch is
no refusal (rules R251, R253). -/
def execOtaValidate (s : State) : Host.Outcome State Fault Refusal :=
  .next <|
    if !s.otaValid then s.refuse .eOtaNocfg
    else if s.needsHopSync ∧ !s.hopIntervalLegal then s.refuse .eOtaHopint
    else ({ s with crcOk := s.crcMatches } : State).accept

/-! ## Decoding a packet -/

/-- The switch field `sw` of a received compact packet, `PKT[6][6:0]` (rule R260). -/
def State.rxSwitch (s : State) : BitVec 7 := s.pkt[6].extractLsb' 0 7

/-- The common part of a compact unpack: channels 0..3 and the armed bit (rule R260). -/
def State.unpackCompact (s : State) : State :=
  { s with
    rxch := unpackGroup dec10Limit s.rxch 0 (lowRegion s.pkt)
    rxArmed := s.pkt[6].getLsbD 7 }

/-- Unpacking under the Indexed policy: the telemetry bit, and the switch that the index bits name; index bits 6 and
7 both name the last switch with its 4-bit value (rule R262). -/
def State.unpackIndexed (s : State) : State :=
  let c := s.unpackCompact
  let sw := s.rxSwitch
  let i := sw.extractLsb' 3 3
  { c with
    rxTlm := sw.getLsbD 6
    rxch :=
      if 6 ≤ i.toNat then c.rxch.set 11 (fromN (sw.extractLsb' 0 4).toNat 15)
      else c.rxch.set (switchChan i) (fromN (sw.extractLsb' 0 3).toNat 7) }

/-- Unpacking under the Wide policy: the receiver's own nonce gives the index; index 7 carries power, the other
indices a 6-bit or a 7-bit switch value (rule R264). -/
def State.unpackWide (s : State) : State :=
  let c := s.unpackCompact
  let sw := s.rxSwitch
  let i := wideIndex s.otaNonce
  { c with
    rxTlm := if s.tlmEvery ∨ i = 7 then sw.getLsbD 6 else c.rxTlm
    otaRxPower := if i = 7 then sw.extractLsb' 0 6 else c.otaRxPower
    rxch :=
      if i = 7 then c.rxch
      else if s.tlmEvery then c.rxch.set (switchChan i) (fromN (sw.extractLsb' 0 6).toNat 63)
      else c.rxch.set (switchChan i) (fromN sw.toNat 127) }

/-- Unpacking an extended packet: the flags and the power level of the header, then the two groups that the packet's
own aux-half flag selects (rule R265). -/
def State.unpackExtended (s : State) (sixteen : Bool) : State :=
  let b0 := s.pkt[0]
  let g := groupOffsets sixteen (b0.getLsbD 6)
  { s with
    rxTlm := b0.getLsbD 2
    otaRxPower := (b0.extractLsb' 3 3).setWidth 6 + 1
    rxHighAux := b0.getLsbD 6
    rxArmed := b0.getLsbD 7
    rxch := unpackGroup dec10Trunc (unpackGroup dec10Trunc s.rxch g.1 (lowRegion s.pkt)) g.2 (highRegion s.pkt) }

/-- Unpacking by mode (rules R255, R259). -/
def State.unpacked (s : State) : State :=
  match s.otaMode with
  | .compactIndexed => s.unpackIndexed
  | .compactWide => s.unpackWide
  | .extended => s.unpackExtended false
  | .extended16 => s.unpackExtended true

/-- `OTA.UNPACK`: the checks and the comparison of `OTA.VALIDATE`; a packet that fails the comparison or is no RC-data
packet is not decoded, any other is decoded and sets `STATUS.RX_UPDATED` (rules R255 to R257). -/
def execOtaUnpack (s : State) : Host.Outcome State Fault Refusal :=
  .next <|
    if !s.otaValid then s.refuse .eOtaNocfg
    else if s.needsHopSync ∧ !s.hopIntervalLegal then s.refuse .eOtaHopint
    else if !s.crcMatches then ({ s with crcOk := false, rxUpdated := false } : State).accept
    else if !s.pktIsRc then ({ s with crcOk := true, rxUpdated := false } : State).accept
    else ({ s.unpacked with crcOk := true, rxUpdated := true } : State).accept

end Sys2Proof.Machine
end

