-- ==== Sys2Proof/Machine/OtaTx.lean ====
section
/-! DEFINITION. The OTA unit, transmit side: `OTA.CONFIG`, `OTA.PACK`, `OTA.SEAL`
(spec/43_ota_encode.md rules R201 to R230). -/

namespace Sys2Proof.Machine

/-- The state after an accepted `OTA.CONFIG` of a mode, before `RESULT` is written: the mode, bank 1 with its table,
the two valid flags and both cursor fields change together (rule R201). -/
def State.configured (s : State) (m : Mode) : State :=
  { s with
    otaMode := m
    tab1 := crcTable m.bankCfg.width.toNat m.bankCfg.poly
    crc1Cfg := m.bankCfg
    crc1Valid := true
    otaValid := true
    swIdx := 0
    auxHalf := false }

/-- `OTA.CONFIG m`: the in-flight check, the mode check, then the swap (rule R201). -/
def execOtaConfig (mode : Nat) (s : State) : Host.Outcome State Fault Refusal :=
  .next <|
    if s.txInflight then s.refuse .eTxInflight
    else
      match modeOfOperand mode with
      | none => s.refuse .eOtaMode
      | some m => (s.configured m).accept

/-! ## Building a packet -/

/-- The switch field of the Indexed policy: telemetry bit, index, and the 3-bit value of the switch or, at index 6,
the 4-bit value (rule R210). -/
def State.indexedField (s : State) : BitVec 7 :=
  let i := s.swIdx.toNat
  let v := if i = 6 then toN s.ch[11] 16 else toN s.ch[switchChan s.swIdx] 8
  BitVec.ofNat 7 ((s.txTlm.toNat <<< 6) ||| (i <<< 3) ||| v)

/-- The switch field of the Wide policy: power at index 7, else the 6-bit value with the telemetry bit when that
travels in every packet, else the 7-bit value (rules R215, R216). -/
def State.wideField (s : State) : BitVec 7 :=
  let i := wideIndex s.otaNonce
  if i = 7 then BitVec.ofNat 7 ((s.txTlm.toNat <<< 6) ||| s.otaUplinkPower.toNat)
  else if s.tlmEvery then BitVec.ofNat 7 ((s.txTlm.toNat <<< 6) ||| toN s.ch[switchChan i] 64)
  else BitVec.ofNat 7 (toN s.ch[switchChan i] 128)

/-- A compact packet with the given switch field, its CRC field not yet stored; bytes 8..12 of the buffer stay as
they were (rules R121, R203, R204). -/
def State.compactPkt (s : State) (sw : BitVec 7) : Vector Byte 13 :=
  let a := packGroup enc10Limit s.ch 0
  #v[0#6 ++ Config.typeRc, packedByte a 0, packedByte a 1, packedByte a 2, packedByte a 3, packedByte a 4,
    BitVec.ofBool s.txArmed ++ sw, s.pkt[7], s.pkt[8], s.pkt[9], s.pkt[10], s.pkt[11], s.pkt[12]]

/-- The header byte of an extended packet: type, telemetry bit, power field, aux half, armed bit from the low end up
(rules R128, R219). -/
def State.extendedHeader (s : State) : Byte :=
  BitVec.ofBool s.txArmed ++ BitVec.ofBool s.auxHalf ++ powerField s.otaUplinkPower ++ BitVec.ofBool s.txTlm
    ++ Config.typeRc

/-- An extended packet, its CRC field not yet stored (rules R128, R219). -/
def State.extendedPkt (s : State) (sixteen : Bool) : Vector Byte 13 :=
  let g := groupOffsets sixteen s.auxHalf
  let a := packGroup enc10Trunc s.ch g.1
  let b := packGroup enc10Trunc s.ch g.2
  #v[s.extendedHeader, packedByte a 0, packedByte a 1, packedByte a 2, packedByte a 3, packedByte a 4,
    packedByte b 0, packedByte b 1, packedByte b 2, packedByte b 3, packedByte b 4, s.pkt[11], s.pkt[12]]

/-- The state with the packet of the current mode built and the cursor of the mode advanced, the CRC not yet stored
(rules R203, R210, R212, R215, R219, R222). -/
def State.built (s : State) : State :=
  match s.otaMode with
  | .compactIndexed =>
    { s with pkt := s.compactPkt s.indexedField, swIdx := BitVec.ofNat 3 ((s.swIdx.toNat + 1) % 7) }
  | .compactWide => { s with pkt := s.compactPkt s.wideField }
  | .extended => { s with pkt := s.extendedPkt false, auxHalf := !s.auxHalf }
  | .extended16 => { s with pkt := s.extendedPkt true, auxHalf := !s.auxHalf }

/-- The state with the CRC of the packet stored in it, `seal()` (rule R229). -/
def State.withSeal (s : State) : State := { s with pkt := s.sealedPkt }

/-- `OTA.PACK`: a mode must be selected, in mode 1 the hop interval must be legal; then build and seal
(rules R203, R227). -/
def execOtaPack (s : State) : Host.Outcome State Fault Refusal :=
  .next <|
    if !s.otaValid then s.refuse .eOtaNocfg
    else if s.otaMode = .compactWide ∧ !s.hopIntervalLegal then s.refuse .eOtaHopint
    else s.built.withSeal.accept

/-- `OTA.SEAL`: a mode must be selected, and the hop interval must be legal when the CRC needs the hop-sync value;
then the CRC of whatever is in `PKT` is stored (rule R230). -/
def execOtaSeal (s : State) : Host.Outcome State Fault Refusal :=
  .next <|
    if !s.otaValid then s.refuse .eOtaNocfg
    else if s.needsHopSync ∧ !s.hopIntervalLegal then s.refuse .eOtaHopint
    else s.withSeal.accept

end Sys2Proof.Machine
end

