-- ==== Sys2Proof/Machine/Sys.lean ====
section
/-! DEFINITION. The SYS group: `SYS.NOP` and `SYS.RESET` (spec/40_sys.md rules R141, R142). -/

namespace Sys2Proof.Machine

/-- `SYS.NOP`: nothing but `RESULT <- 0` (rule R141). -/
def execSysNop (s : State) : Host.Outcome State Fault Refusal := .next s.accept

/-- `SYS.RESET`: every element takes its reset value, then `RESULT <- 0`; never refused (rule R142). -/
def execSysReset (s : State) : Host.Outcome State Fault Refusal := .next s.blockReset.accept

end Sys2Proof.Machine
end

