-- ==== Sys2Proof/Machine/Dispatch.lean ====
section
/-! DEFINITION. The dispatch of a decoded command to its meaning (spec/40_sys.md rule R140), one arm per row of
the opcode table. -/

namespace Sys2Proof.Machine

def exec (i : Instr) (s : State) : Host.Outcome State Fault Refusal :=
  match i with
  | .sysNop => Sys2Proof.Machine.execSysNop s
  | .sysReset => Sys2Proof.Machine.execSysReset s
  | .crcInit => Sys2Proof.Machine.execCrcInit s
  | .crcCalc bank => Sys2Proof.Machine.execCrcCalc bank s
  | .fhssBuild => Sys2Proof.Machine.execFhssBuild s
  | .fhssHop => Sys2Proof.Machine.execFhssHop s
  | .otaConfig mode => Sys2Proof.Machine.execOtaConfig mode s
  | .otaPack => Sys2Proof.Machine.execOtaPack s
  | .otaSeal => Sys2Proof.Machine.execOtaSeal s
  | .otaValidate => Sys2Proof.Machine.execOtaValidate s
  | .otaUnpack => Sys2Proof.Machine.execOtaUnpack s

end Sys2Proof.Machine
end

