-- ==== Sys2Proof/Machine/Bus.lean ====
section
/-! DEFINITION. The block's register window: the register map and the array windows, what a host read answers and
what a host write stores, the execution of a command word, and one host access as a step of the block
(spec/10_state.md rules R33, R76; spec/20_memory.md rules R84, R85, R87, R88; spec/40_sys.md rule R140). -/

namespace Sys2Proof.Machine

/-! ## The address map -/

/-- The registers of rule R33. -/
inductive Reg where
  | cmd | status | result | firstErr | ctrl
  | crcBits | crcPoly | crcLen | crcInitval | crcResult | crc0Cfg | crc1Cfg
  | fhssSeed | fhssFreqCount | fhssFreqStart | fhssFreqStop | fhssHopInterval | fhssSeqCount | fhssActCount
  | fhssSync | fhssPtr | fhssChan | fhssFreq | fhssSpread | fhssActStart | fhssHopSync
  | otaMode | otaNonce | otaTlmDenom | otaCrcInit | otaTxFlags | otaUplinkPower | otaCursor | otaPktLen
  | otaRxFlags | otaRxPower
deriving DecidableEq, Repr

/-- What a defined offset names: a register, or an element of an array (rules R33, R76). -/
inductive Loc where
  /-- A register of rule R33. -/
  | reg (r : Reg)
  /-- `CH[i]`. -/
  | ch (i : Fin 16)
  /-- `RXCH[i]`. -/
  | rxch (i : Fin 16)
  /-- `PKT[i]`. -/
  | pkt (i : Fin 13)
  /-- `BUF[i]`. -/
  | buf (i : Fin 256)
  /-- `TAB0[i]` or `TAB1[i]`. -/
  | tab (b : Bank) (i : Fin 256)
  /-- `SEQ[i]`. -/
  | seq (i : Fin 256)
deriving DecidableEq, Repr

/-- The size of the window in bytes (rule R76). -/
def windowSize : Nat := 0x1400

/-- The offset of a register (rule R33). -/
def Reg.offset : Reg → Nat
  | .cmd => 0x000
  | .status => 0x004
  | .result => 0x008
  | .firstErr => 0x00C
  | .ctrl => 0x010
  | .crcBits => 0x020
  | .crcPoly => 0x024
  | .crcLen => 0x028
  | .crcInitval => 0x02C
  | .crcResult => 0x030
  | .crc0Cfg => 0x034
  | .crc1Cfg => 0x038
  | .fhssSeed => 0x040
  | .fhssFreqCount => 0x044
  | .fhssFreqStart => 0x048
  | .fhssFreqStop => 0x04C
  | .fhssHopInterval => 0x050
  | .fhssSeqCount => 0x054
  | .fhssActCount => 0x058
  | .fhssSync => 0x05C
  | .fhssPtr => 0x060
  | .fhssChan => 0x064
  | .fhssFreq => 0x068
  | .fhssSpread => 0x06C
  | .fhssActStart => 0x070
  | .fhssHopSync => 0x074
  | .otaMode => 0x080
  | .otaNonce => 0x084
  | .otaTlmDenom => 0x088
  | .otaCrcInit => 0x08C
  | .otaTxFlags => 0x090
  | .otaUplinkPower => 0x094
  | .otaCursor => 0x098
  | .otaPktLen => 0x09C
  | .otaRxFlags => 0x0A0
  | .otaRxPower => 0x0A4

/-- Every register, in the order of the map (rule R33). -/
def Reg.all : List Reg :=
  [.cmd, .status, .result, .firstErr, .ctrl,
    .crcBits, .crcPoly, .crcLen, .crcInitval, .crcResult, .crc0Cfg, .crc1Cfg,
    .fhssSeed, .fhssFreqCount, .fhssFreqStart, .fhssFreqStop, .fhssHopInterval, .fhssSeqCount, .fhssActCount,
    .fhssSync, .fhssPtr, .fhssChan, .fhssFreq, .fhssSpread, .fhssActStart, .fhssHopSync,
    .otaMode, .otaNonce, .otaTlmDenom, .otaCrcInit, .otaTxFlags, .otaUplinkPower, .otaCursor, .otaPktLen,
    .otaRxFlags, .otaRxPower]

/-- The array window of a bank's table: `TAB0` at 0x800, `TAB1` at 0xC00 (rule R76). -/
def tabBase : Bank → Nat
  | .bank0 => 0x800
  | .bank1 => 0xC00

/-- The offset of a location: the register's, or `B + 4*i` for element `i` of the array with base `B` (rule R76). -/
def Loc.offset : Loc → Nat
  | .reg r => r.offset
  | .ch i => 0x100 + 4 * i.val
  | .rxch i => 0x140 + 4 * i.val
  | .pkt i => 0x180 + 4 * i.val
  | .buf i => 0x400 + 4 * i.val
  | .tab b i => tabBase b + 4 * i.val
  | .seq i => 0x1000 + 4 * i.val

/-- The element of an array of `n` words with base `base` that an offset names, if it names one (rule R76). -/
def elementAt (base n offset : Nat) : Option (Fin n) :=
  if h : base ≤ offset ∧ offset % 4 = base % 4 ∧ (offset - base) / 4 < n then some ⟨(offset - base) / 4, h.2.2⟩
  else none

/-- The register at an offset, if there is one (rule R33). -/
def regAt (offset : Nat) : Option Reg := Reg.all.find? (fun r => r.offset == offset)

/-- The location at an offset; `none` for a reserved offset and for an offset outside the window (rule R88). -/
def locate (offset : Nat) : Option Loc :=
  ((regAt offset).map Loc.reg)
    <|> ((elementAt 0x100 16 offset).map Loc.ch)
    <|> ((elementAt 0x140 16 offset).map Loc.rxch)
    <|> ((elementAt 0x180 13 offset).map Loc.pkt)
    <|> ((elementAt 0x400 256 offset).map Loc.buf)
    <|> ((elementAt 0x800 256 offset).map (Loc.tab .bank0))
    <|> ((elementAt 0xC00 256 offset).map (Loc.tab .bank1))
    <|> ((elementAt 0x1000 256 offset).map Loc.seq)

/-! ## Reading and writing a location -/

/-- A value in the low bits of a bus word, the other bits 0 (rules R33, R76). -/
def zext {w : Nat} (v : BitVec w) : Word := v.setWidth 32

/-- What a read of a register answers (rules R33, R84); `CMD` reads 0 (rule R34). -/
def State.readReg (s : State) : Reg → Word
  | .cmd => 0
  | .status => zext s.status
  | .result => zext s.result.num
  | .firstErr => zext s.firstErr.num
  | .ctrl => zext (BitVec.ofBool s.txInflight)
  | .crcBits => zext s.crcBits
  | .crcPoly => zext s.crcPoly
  | .crcLen => zext s.crcLen
  | .crcInitval => zext s.crcInitval
  | .crcResult => zext s.crcResult
  | .crc0Cfg => s.crc0Cfg.word
  | .crc1Cfg => s.crc1Cfg.word
  | .fhssSeed => zext s.fhssSeed
  | .fhssFreqCount => zext s.fhssFreqCount
  | .fhssFreqStart => zext s.fhssFreqStart
  | .fhssFreqStop => zext s.fhssFreqStop
  | .fhssHopInterval => zext s.fhssHopInterval
  | .fhssSeqCount => zext s.fhssSeqCount
  | .fhssActCount => zext s.fhssActCount
  | .fhssSync => zext s.fhssSync
  | .fhssPtr => zext s.fhssPtr
  | .fhssChan => zext s.fhssChan
  | .fhssFreq => zext s.fhssFreq
  | .fhssSpread => zext s.fhssSpread
  | .fhssActStart => zext s.fhssActStart
  | .fhssHopSync => zext s.hopSync
  | .otaMode => zext s.otaMode.code
  | .otaNonce => zext s.otaNonce
  | .otaTlmDenom => zext s.otaTlmDenom
  | .otaCrcInit => zext s.otaCrcInit
  | .otaTxFlags => zext s.txFlags
  | .otaUplinkPower => zext s.otaUplinkPower
  | .otaCursor => zext s.otaCursor
  | .otaPktLen => zext s.otaPktLen
  | .otaRxFlags => zext s.rxFlags
  | .otaRxPower => zext s.otaRxPower

/-- What a read of a location answers: the register, or the element zero-extended (rule R84). -/
def State.readLoc (s : State) : Loc → Word
  | .reg r => s.readReg r
  | .ch i => zext s.ch[i]
  | .rxch i => zext s.rxch[i]
  | .pkt i => zext s.pkt[i]
  | .buf i => zext s.buf[i]
  | .tab b i => zext (s.bankTab b)[i]
  | .seq i => zext s.seq[i]

/-- What a write to a register other than `CMD` stores: an `RW` register takes the low bits of the value, field by
field where it has fields; a write to an `RO` register changes nothing (rules R33, R85). A write to `CMD` stores
nothing (rule R34): it executes a command, see `runCommand`. -/
def State.writeReg (s : State) (v : Word) : Reg → State
  | .cmd => s
  | .status => s
  | .result => s
  | .firstErr => s
  | .ctrl => { s with txInflight := v.getLsbD 0 }
  | .crcBits => { s with crcBits := v.setWidth 5 }
  | .crcPoly => { s with crcPoly := v.setWidth 16 }
  | .crcLen => { s with crcLen := v.setWidth 9 }
  | .crcInitval => { s with crcInitval := v.setWidth 16 }
  | .crcResult => s
  | .crc0Cfg => s
  | .crc1Cfg => s
  | .fhssSeed => { s with fhssSeed := v.setWidth 32 }
  | .fhssFreqCount => { s with fhssFreqCount := v.setWidth 9 }
  | .fhssFreqStart => { s with fhssFreqStart := v.setWidth 32 }
  | .fhssFreqStop => { s with fhssFreqStop := v.setWidth 32 }
  | .fhssHopInterval => { s with fhssHopInterval := v.setWidth 8 }
  | .fhssSeqCount => s
  | .fhssActCount => s
  | .fhssSync => s
  | .fhssPtr => s
  | .fhssChan => s
  | .fhssFreq => s
  | .fhssSpread => s
  | .fhssActStart => s
  | .fhssHopSync => s
  | .otaMode => s
  | .otaNonce => { s with otaNonce := v.setWidth 8 }
  | .otaTlmDenom => { s with otaTlmDenom := v.setWidth 8 }
  | .otaCrcInit => { s with otaCrcInit := v.setWidth 16 }
  | .otaTxFlags => { s with txArmed := v.getLsbD 0, txTlm := v.getLsbD 1 }
  | .otaUplinkPower => { s with otaUplinkPower := v.setWidth 6 }
  | .otaCursor => s
  | .otaPktLen => s
  | .otaRxFlags => s
  | .otaRxPower => s

/-- What `CH[i]` stores of a written word: `min(v, 2047)` (rule R21). -/
def saturate (v : Word) : Chan := BitVec.ofNat 11 (min v.toNat 2047)

/-- What a write to a location stores (rule R85): `CH` saturates, `PKT` and `BUF` keep the low 8 bits, the `RO`
arrays do not change. -/
def State.writeLoc (s : State) (v : Word) : Loc → State
  | .reg r => s.writeReg v r
  | .ch i => { s with ch := s.ch.set i (saturate v) }
  | .rxch _ => s
  | .pkt i => { s with pkt := s.pkt.set i (v.setWidth 8) }
  | .buf i => { s with buf := s.buf.set i (v.setWidth 8) }
  | .tab _ _ => s
  | .seq _ => s

/-! ## One access -/

/-- The effect of a write of the word `w` to `CMD`: the command that `w` encodes executes to completion, and an
illegal word is refused with `E_OPCODE` before any other check (rules R140, R143, R285). -/
def runCommand (w : Word) (s : State) : Host.Outcome State Fault Refusal :=
  match decode w with
  | .ok i => exec i s
  | .error _ => .next (s.refuse .eOpcode)

/-- The location that an access of `bytes` bytes at `offset` reaches, or why the spec gives the access no meaning:
only the aligned 32-bit access to a defined offset has one (rules R87, R88). -/
def target (offset bytes : Nat) : Except Refusal Loc :=
  if bytes ≠ 4 then .error (.reservedWidth bytes)
  else if offset % 4 ≠ 0 then .error (.reservedAlignment offset)
  else
    match locate offset with
    | none => .error (.reservedOffset offset)
    | some l => .ok l

/-- One access, taken whole before the next (rules R10, R91, R92): a read answers and changes no element of the block
(rule R84), a write to `CMD` executes a command, any other write stores (rule R85), and the event `reset` resets the
block (rule R310). -/
def access (a : Access) (s : State) : Host.Outcome State Fault Refusal :=
  match a with
  | .read offset bytes =>
    match target offset bytes with
    | .error r => .refused r
    | .ok l => .next { s with answer := some (s.readLoc l) }
  | .write offset bytes v =>
    match target offset bytes with
    | .error r => .refused r
    | .ok (.reg .cmd) => runCommand v s
    | .ok l => .next (s.writeLoc v l)
  | .reset => .next s.blockReset

/-- The next thing the block does: it takes the oldest pending access, and with none pending it does nothing, since
every register keeps its value while no access arrives (rules R10, R20, R91, R329). -/
def takeNext (s : State) : Host.Outcome State Fault Refusal :=
  match s.pending with
  | [] => .next s
  | a :: rest => access a { s with pending := rest }

/-- The host's write of a command word to `CMD` (rule R110). -/
def commandWrite (w : Word) : Access := .write 0x000 4 w

end Sys2Proof.Machine
end

