-- ==== Sys2Proof/Machine/Step.lean ====
section
/-! DEFINITION. One step of the machine: one host access (spec/00_scope.md rule R10). -/

namespace Sys2Proof.Machine

/-- One step: the block takes the oldest pending access, and idles when there is none (rules R10, R91, R329). -/
def step (s : State) : Host.Outcome State Fault Refusal := takeNext s

/-- The state whose next step runs the command word `w`: the block fetches nothing (rule R24), so the word is placed
as the oldest pending host access, a write to `CMD` (log entry 1). -/
def State.withFetchWord (s : State) (nbits w : Nat) : State :=
  { s with pending := commandWrite (BitVec.ofNat 32 (w % 2 ^ nbits)) :: s.pending }

end Sys2Proof.Machine
end

