-- ==== Sys2Proof/Safety.lean ====
section
/-! DEFINITION. What counts as a safe run of the block, in the terms the statements use: host accesses the spec
gives a meaning, the relations between the elements of the state that every step keeps, and the reference forms
(bit-serial CRC, permuted blocks) that the spec's own consequences speak of. -/

namespace Sys2Proof.Machine

/-! ## Host accesses -/

/-- The spec gives the access a meaning: an aligned 32-bit access to a defined offset, or the event `reset`
(rules R87, R88, R310). -/
def Access.defined : Access → Bool
  | .read offset bytes => bytes == 4 && offset % 4 == 0 && (locate offset).isSome
  | .write offset bytes _ => bytes == 4 && offset % 4 == 0 && (locate offset).isSome
  | .reset => true

/-- The width of a location the host can write, `none` for `CMD` and for a read-only one; `CH` saturates instead of
narrowing and is `none` here (rules R33, R76, R85). -/
def Loc.narrowedTo : Loc → Option Nat
  | .reg .ctrl => some 1
  | .reg .crcBits => some 5
  | .reg .crcPoly => some 16
  | .reg .crcLen => some 9
  | .reg .crcInitval => some 16
  | .reg .fhssSeed => some 32
  | .reg .fhssFreqCount => some 9
  | .reg .fhssFreqStart => some 32
  | .reg .fhssFreqStop => some 32
  | .reg .fhssHopInterval => some 8
  | .reg .otaNonce => some 8
  | .reg .otaTlmDenom => some 8
  | .reg .otaCrcInit => some 16
  | .reg .otaTxFlags => some 2
  | .reg .otaUplinkPower => some 6
  | .pkt _ => some 8
  | .buf _ => some 8
  | _ => none

/-- A location that the host can read and not write (rules R33, R76). -/
def Loc.readOnly : Loc → Bool
  | .reg .cmd => false
  | .ch _ => false
  | l => l.narrowedTo.isNone

/-- The value of one location is computed from another one: `FHSS_HOPSYNC` follows `OTA_NONCE` and
`FHSS_HOP_INTERVAL` (rule R55). -/
def Loc.follows (l by_ : Loc) : Bool :=
  l == .reg .fhssHopSync && (by_ == .reg .otaNonce || by_ == .reg .fhssHopInterval)

/-! ## Relations between elements of the state -/

/-- `STATUS.ERR` mirrors `FIRSTERR != 0`, and a nonzero `RESULT` is a refusal since reset (rules R27, R35, R36). -/
def State.ErrMirrors (s : State) : Prop :=
  (s.err = true ↔ s.firstErr ≠ .ok) ∧ (s.result ≠ .ok → s.err = true)

/-- The switch cursor is an index 0..6 (rule R62). -/
def State.CursorInCycle (s : State) : Prop := s.swIdx.toNat < 7

/-- What bank 0 holds: nothing before the first `CRC.INIT`, else a legal configuration with the table it determines
(rules R43, R70, R95). -/
def State.Bank0Matches (s : State) : Prop :=
  if s.crc0Valid then
    s.crc0Cfg.width.toNat ∈ Config.crcWidths ∧ s.crc0Cfg.poly.toNat < 2 ^ s.crc0Cfg.width.toNat ∧
      s.tab0 = crcTable s.crc0Cfg.width.toNat s.crc0Cfg.poly
  else s.crc0Cfg = ⟨0, 0⟩ ∧ s.tab0 = Vector.replicate 256 0

/-- What bank 1 holds: nothing before the first `OTA.CONFIG`, else the configuration and table of the current mode;
`CRC1_VALID` and `OTA_VALID` are equal (rules R30, R92, R95). -/
def State.Bank1Matches (s : State) : Prop :=
  s.crc1Valid = s.otaValid ∧
    if s.otaValid then
      s.crc1Cfg = s.otaMode.bankCfg ∧ s.tab1 = crcTable s.otaMode.bankCfg.width.toNat s.otaMode.bankCfg.poly
    else s.crc1Cfg = ⟨0, 0⟩ ∧ s.tab1 = Vector.replicate 256 0 ∧ s.otaMode = .compactIndexed

/-- Block `b` of a schedule of `n` channels (rule R170). -/
def blockOf (seq : Vector Byte 256) (n b : Nat) : List Nat := ((seq.toList.drop (b * n)).take n).map BitVec.toNat

/-- Every block of the schedule starts on the sync channel and is a permutation of the channels, and the entries past
the schedule are 0 (rules R71, R180). -/
def WellFormedSchedule (seq : Vector Byte 256) (n : Nat) : Prop :=
  (∀ b, b < 256 / n → (blockOf seq n b).head? = some (n / 2) ∧ (blockOf seq n b).Perm (List.range n)) ∧
    ∀ i, (h : i < 256) → 256 / n * n ≤ i → seq[i] = 0

/-- The schedule registers: all 0 before the first `FHSS.BUILD`, else those of a well-formed schedule of the latched
channel count with the pointer inside it (rules R48 to R51, R71, R180). -/
def State.ScheduleMatches (s : State) : Prop :=
  if s.fhssValid then
    2 ≤ s.fhssActCount.toNat ∧ s.fhssActCount.toNat ≤ 256 ∧
      s.fhssSeqCount.toNat = 256 / s.fhssActCount.toNat * s.fhssActCount.toNat ∧
      s.fhssSync.toNat = s.fhssActCount.toNat / 2 ∧ s.fhssPtr.toNat < s.fhssSeqCount.toNat ∧
      WellFormedSchedule s.seq s.fhssActCount.toNat
  else
    s.seq = Vector.replicate 256 0 ∧ s.fhssSeqCount = 0 ∧ s.fhssActCount = 0 ∧ s.fhssSync = 0 ∧ s.fhssPtr = 0 ∧
      s.fhssSpread = 0 ∧ s.fhssActStart = 0

/-- The relations between the elements of the state that hold at reset and that every step keeps. -/
structure State.Coherent (s : State) : Prop where
  /-- The error registers agree. -/
  errMirrors : s.ErrMirrors
  /-- The cursor is in its cycle. -/
  cursorInCycle : s.CursorInCycle
  /-- Bank 0 agrees with its configuration. -/
  bank0Matches : s.Bank0Matches
  /-- Bank 1 agrees with the mode. -/
  bank1Matches : s.Bank1Matches
  /-- The schedule agrees with its registers. -/
  scheduleMatches : s.ScheduleMatches

/-! ## Reference forms -/

/-- One bit of the bit-serial CRC of rule R159: bit `7 - k` of the byte against the register's top bit. -/
def serialBit (w : Nat) (p : Hword) (d : Byte) (c : Hword) (k : Nat) : Hword :=
  if (c.getLsbD (w - 1)) ^^ (d.getLsbD (7 - k)) then truncW w (c <<< 1) ^^^ p else truncW w (c <<< 1)

/-- The bit-serial form of a fold step: eight bits of the byte, most significant first (rule R159). -/
def serialStep (w : Nat) (p c : Hword) (d : Byte) : Hword := (List.range 8).foldl (serialBit w p d) c

/-- The distance between two channel values. -/
def chanDist (a b : Nat) : Nat := (a - b) + (b - a)

/-- The state with one bit of one packet byte flipped (rule R254). -/
def State.flipPkt (s : State) (k : Fin 13) (b : Fin 8) : State :=
  { s with pkt := s.pkt.set k.val (s.pkt[k] ^^^ (1#8 <<< b.val)) }

/-- The state with the packet of another block in `PKT`, as the host copies it (rule R267). -/
def State.withPktOf (s t : State) : State := { s with pkt := t.pkt }

/-- The state in which the host has issued `k` writes of the command word `w` and nothing else. -/
def State.issuing (s : State) (k : Nat) (w : Word) : State := { s with pending := List.replicate k (commandWrite w) }

/-- The refusal condition of rules R230, R251 and R255: mode 1, an RC-data packet in `PKT`, and a hop interval outside
1..63. -/
def State.HopRefused (s : State) : Prop :=
  s.otaMode = .compactWide ∧ s.pkt[0].extractLsb' 0 2 = 0b00#2 ∧
    ¬(1 ≤ s.fhssHopInterval.toNat ∧ s.fhssHopInterval.toNat ≤ 63)

/-- The hop interval is legal if the mode is mode 1 (rule R227). -/
def State.HopReady (s : State) : Prop :=
  s.otaMode = .compactWide → 1 ≤ s.fhssHopInterval.toNat ∧ s.fhssHopInterval.toNat ≤ 63

end Sys2Proof.Machine
end

