-- ==== Sys2Proof/Certificates/Slice0/Obligations.lean ====
section
/-! DEFINITION. The statements for the provers, from the numbered rules of spec/. A statement whose rule the spec
marks as its own inference (`[derived: ...]`), or that rests on a choice of this model, says so in its docstring. -/

open Sys2Proof Sys2Proof.Machine

/-! ## Encoding -/

/-- Decode and encode agree on every word and every command: a word decodes to a command exactly when it is the
encoding of that command and the command's operand fits its field (rules R101 to R106). -/
def Obligations.DecodesExactlyItsEncoding : Prop :=
  ∀ (w : Word) (i : Instr), decode w = .ok i ↔ i.wellFormed = true ∧ encode i = w

/-- The illegal words are those that rule R107 lists: an unassigned `OP`, a nonzero `RSV`, a format Z word with a
nonzero `ARG`, a format X word with bit 9 or bit 10 set; each decodes to no command. -/
def Obligations.IllegalWordsAreThoseListed : Prop :=
  ∀ w : Word, (∃ e, decode w = .error e) ↔
    w &&& 0xFF#32 ∉ [0x00#32, 0x01#32, 0x10#32, 0x11#32, 0x20#32, 0x21#32, 0x30#32, 0x31#32, 0x32#32, 0x33#32, 0x34#32]
    ∨ w >>> 11 ≠ 0#32
    ∨ (w &&& 0xFF#32 ∉ [0x11#32, 0x30#32] ∧ w &&& 0x700#32 ≠ 0#32)
    ∨ (w &&& 0xFF#32 = 0x11#32 ∧ w &&& 0x600#32 ≠ 0#32)

/-- The worked encodings of rule R112 and the illegal examples of rule R107 (both the spec's examples). -/
def Obligations.WorkedWordsDecode : Prop :=
  decode 0x00000130#32 = .ok (.otaConfig 1) ∧ decode 0x00000330#32 = .ok (.otaConfig 3) ∧
    decode 0x00000111#32 = .ok (.crcCalc .bank1) ∧ decode 0x00000011#32 = .ok (.crcCalc .bank0) ∧
    decode 0x00000021#32 = .ok .fhssHop ∧ decode 0x00000034#32 = .ok .otaUnpack ∧
    decode 0x00000230#32 = .ok (.otaConfig 2) ∧ decode 0x00000730#32 = .ok (.otaConfig 7) ∧
    decode 0x00000000#32 = .ok .sysNop ∧ decode 0xFFFFFFFF#32 = .error .unassignedOpcode ∧
    decode 0x00000110#32 = .error .nonzeroArgument ∧ decode 0x00000311#32 = .error .nonzeroArgument ∧
    decode 0x00000800#32 = .error .reservedBits

/-! ## One step -/

/-- A step runs the decoded command: when the oldest pending access is a 32-bit write of `w` to `CMD` and `w` decodes
to `i`, the step takes the access off the port and is `exec i` (rules R34, R140; the port is the model's own, log
entry 1). -/
def Obligations.StepRunsDecodedCommand : Prop :=
  ∀ (s : State) (w : Word) (rest : List Access) (i : Instr),
    s.pending = .write 0x000 4 w :: rest → decode w = .ok i → step s = exec i { s with pending := rest }

/-- An illegal command word is refused with `E_OPCODE` whatever the rest of the state is, the argument registers and
`CTRL.TX_INFLIGHT` included: nothing else of the block changes (rule R285). -/
def Obligations.IllegalWordRefusedWhateverTheState : Prop :=
  ∀ (s : State) (w : Word) (rest : List Access) (e : Illegal),
    s.pending = .write 0x000 4 w :: rest → decode w = .error e →
      step s = .next { s with
        pending := rest, result := .eOpcode, err := true
        firstErr := if s.firstErr = .ok then .eOpcode else s.firstErr }

/-- With no access pending the block keeps its whole state (rules R20, R329; that a step without an access is an idle
step is the model's own form, log entry 1). -/
def Obligations.IdleStepKeepsState : Prop := ∀ s : State, s.pending = [] → step s = .next s

/-- No step faults, and a step is refused exactly when the oldest pending access is one to which the spec gives no
meaning (rules R12, R87, R88). -/
def Obligations.OnlyReservedAccessesStop : Prop :=
  ∀ s : State, (∀ f, step s ≠ .fault f) ∧
    ((∃ r, step s = .refused r) ↔ ∃ a rest, s.pending = a :: rest ∧ a.defined = false)

/-- An access whose address is not a multiple of 4, or that is not 4 bytes wide, has no meaning: the step is refused,
for reads and for writes (rule R87). -/
def Obligations.UnalignedOrOtherWidthRefused : Prop :=
  ∀ (s : State) (offset bytes : Nat) (v : Word) (rest : List Access), bytes ≠ 4 ∨ offset % 4 ≠ 0 →
    (s.pending = .read offset bytes :: rest → ∃ r, step s = .refused r) ∧
      (s.pending = .write offset bytes v :: rest → ∃ r, step s = .refused r)

/-- Exactly the offsets that rule R88 lists, and those at or above 0x1400, name nothing; a read or a write of one is
refused. -/
def Obligations.ReservedOffsetsRefused : Prop :=
  ∀ offset : Nat, offset % 4 = 0 →
    (locate offset = none ↔
      (0x014 ≤ offset ∧ offset ≤ 0x01C) ∨ offset = 0x03C ∨ (0x078 ≤ offset ∧ offset ≤ 0x07C) ∨
        (0x0A8 ≤ offset ∧ offset ≤ 0x0FC) ∨ (0x1B4 ≤ offset ∧ offset ≤ 0x3FC) ∨ 0x1400 ≤ offset) ∧
    ∀ (s : State) (v : Word) (rest : List Access), locate offset = none →
      (s.pending = .read offset 4 :: rest → step s = .refused (.reservedOffset offset)) ∧
        (s.pending = .write offset 4 v :: rest → step s = .refused (.reservedOffset offset))

/-- The address map is one to one: the offset of every register and array element leads back to it, and an offset
leads to no other; every register has the offset that the table of rule R33 gives it, and every array starts where the
table of rule R76 says. -/
def Obligations.AddressMapOneToOne : Prop :=
  (∀ (l : Loc) (offset : Nat), locate offset = some l ↔ l.offset = offset) ∧
  (∀ p ∈ [(Reg.cmd, 0x000), (.status, 0x004), (.result, 0x008), (.firstErr, 0x00C), (.ctrl, 0x010), (.crcBits, 0x020),
      (.crcPoly, 0x024), (.crcLen, 0x028), (.crcInitval, 0x02C), (.crcResult, 0x030), (.crc0Cfg, 0x034),
      (.crc1Cfg, 0x038), (.fhssSeed, 0x040), (.fhssFreqCount, 0x044), (.fhssFreqStart, 0x048), (.fhssFreqStop, 0x04C),
      (.fhssHopInterval, 0x050), (.fhssSeqCount, 0x054), (.fhssActCount, 0x058), (.fhssSync, 0x05C), (.fhssPtr, 0x060),
      (.fhssChan, 0x064), (.fhssFreq, 0x068), (.fhssSpread, 0x06C), (.fhssActStart, 0x070), (.fhssHopSync, 0x074),
      (.otaMode, 0x080), (.otaNonce, 0x084), (.otaTlmDenom, 0x088), (.otaCrcInit, 0x08C), (.otaTxFlags, 0x090),
      (.otaUplinkPower, 0x094), (.otaCursor, 0x098), (.otaPktLen, 0x09C), (.otaRxFlags, 0x0A0), (.otaRxPower, 0x0A4)],
    (Loc.reg p.1).offset = p.2) ∧
  (∀ i, (Loc.ch i).offset = 0x100 + 4 * i.val) ∧ (∀ i, (Loc.rxch i).offset = 0x140 + 4 * i.val) ∧
  (∀ i, (Loc.pkt i).offset = 0x180 + 4 * i.val) ∧ (∀ i, (Loc.buf i).offset = 0x400 + 4 * i.val) ∧
  (∀ i, (Loc.tab .bank0 i).offset = 0x800 + 4 * i.val) ∧ (∀ i, (Loc.tab .bank1 i).offset = 0xC00 + 4 * i.val) ∧
  ∀ i, (Loc.seq i).offset = 0x1000 + 4 * i.val

/-- A read of a defined offset answers the value of the location and changes no element of the block (rule R84; the
answer's place in the state is the model's own, log entry 2). The value of a register that holds one plain value, and
of an array element, is that value zero-extended (rules R33, R76); the other registers are those of
`StatusBitPlaces`. -/
def Obligations.ReadAnswersAndChangesNothing : Prop :=
  (∀ (s : State) (l : Loc) (rest : List Access), s.pending = .read l.offset 4 :: rest →
    step s = .next { s with pending := rest, answer := some (s.readLoc l) }) ∧
  ∀ s : State,
    let r := fun k => (s.readLoc (.reg k)).toNat
    r .cmd = 0 ∧ r .crcBits = s.crcBits.toNat ∧ r .crcPoly = s.crcPoly.toNat ∧ r .crcLen = s.crcLen.toNat ∧
      r .crcInitval = s.crcInitval.toNat ∧ r .crcResult = s.crcResult.toNat ∧ r .fhssSeed = s.fhssSeed.toNat ∧
      r .fhssFreqCount = s.fhssFreqCount.toNat ∧ r .fhssFreqStart = s.fhssFreqStart.toNat ∧
      r .fhssFreqStop = s.fhssFreqStop.toNat ∧ r .fhssHopInterval = s.fhssHopInterval.toNat ∧
      r .fhssSeqCount = s.fhssSeqCount.toNat ∧ r .fhssActCount = s.fhssActCount.toNat ∧
      r .fhssSync = s.fhssSync.toNat ∧ r .fhssPtr = s.fhssPtr.toNat ∧ r .fhssSpread = s.fhssSpread.toNat ∧
      r .fhssActStart = s.fhssActStart.toNat ∧ r .otaNonce = s.otaNonce.toNat ∧
      r .otaTlmDenom = s.otaTlmDenom.toNat ∧ r .otaCrcInit = s.otaCrcInit.toNat ∧
      r .otaUplinkPower = s.otaUplinkPower.toNat ∧ r .otaRxPower = s.otaRxPower.toNat ∧
      (∀ i, (s.readLoc (.ch i)).toNat = s.ch[i].toNat) ∧ (∀ i, (s.readLoc (.rxch i)).toNat = s.rxch[i].toNat) ∧
      (∀ i, (s.readLoc (.pkt i)).toNat = s.pkt[i].toNat) ∧ (∀ i, (s.readLoc (.buf i)).toNat = s.buf[i].toNat) ∧
      (∀ i, (s.readLoc (.tab .bank0 i)).toNat = s.tab0[i].toNat) ∧
      (∀ i, (s.readLoc (.tab .bank1 i)).toNat = s.tab1[i].toNat) ∧
      ∀ i, (s.readLoc (.seq i)).toNat = s.seq[i].toNat

/-- Every element of the state is readable, and `CMD` reads 0: two blocks that answer every read alike are equal (the
spec's own inference, rule R79; the model's two port fields are compared beside it). -/
def Obligations.ReadsDetermineTheState : Prop :=
  (∀ s : State, s.readLoc (.reg .cmd) = 0) ∧
    ∀ s t : State, (∀ l, s.readLoc l = t.readLoc l) → s.pending = t.pending → s.answer = t.answer → s = t

/-- A host write to an `RW` register, to `PKT` or to `BUF` keeps the low bits of the value up to the location's width,
a write to `CH[i]` stores `min(v, 2047)`, and every other location reads as before, but for `FHSS_HOPSYNC` after a
write to a register it is computed from; a write to a read-only register or array changes nothing of the block,
`RESULT` and `STATUS.ERR` included (rules R21, R85, clauses (b) to (e)). -/
def Obligations.HostWriteStoresItsWidth : Prop :=
  ∀ (s : State) (l : Loc) (v : Word) (rest : List Access), l ≠ .reg .cmd → s.pending = .write l.offset 4 v :: rest →
    (l.readOnly = true → step s = .next { s with pending := rest }) ∧
    (l.readOnly = false →
      ∃ t, step s = .next t ∧ t.pending = rest ∧ t.answer = s.answer ∧
        (∀ w, l.narrowedTo = some w → (t.readLoc l).toNat = v.toNat % 2 ^ w) ∧
        (∀ i, l = .ch i → (t.readLoc l).toNat = min v.toNat 2047) ∧
        ∀ l', l' ≠ l → l'.follows l = false → t.readLoc l' = s.readLoc l')

/-- Where the flags and fields stand in the registers, and what the computed registers read. `STATUS`: bits 0 to 8 in
the order of rule R26, `BUSY` always 0 (rule R32), `ON_SYNC` by rule R31, bits 31:9 read 0. `RESULT` and `FIRSTERR`:
the numbers of the twelve codes (rule R282). `CTRL`, `CRC0_CFG`, `CRC1_CFG`, `OTA_MODE`, `OTA_TXFLAGS`, `OTA_CURSOR`,
`OTA_RXFLAGS`: their fields, every other bit 0 (rules R37, R43, R105, R60, R62, R64). `FHSS_CHAN`, `FHSS_FREQ`,
`OTA_PKT_LEN`: rules R52, R53, R63. `FHSS_HOPSYNC`: the value of rules R55 and R189 in the register's seven bits; that
a value above 127, which no interval up to 127 gives, loses its bit 7 is the model's reading of the register's width
(log entry 5). -/
def Obligations.StatusBitPlaces : Prop :=
  ∀ s : State,
    let v := s.readLoc (.reg .status)
    v.getLsbD 0 = false ∧ v.getLsbD 1 = s.err ∧ v.getLsbD 2 = s.crcOk ∧ v.getLsbD 3 = s.rxUpdated ∧
      v.getLsbD 4 = s.crc0Valid ∧ v.getLsbD 5 = s.crc1Valid ∧ v.getLsbD 6 = s.fhssValid ∧ v.getLsbD 7 = s.otaValid ∧
      (v.getLsbD 8 = true ↔ s.fhssValid = true ∧ s.seq[s.fhssPtr.toNat]'s.fhssPtr.isLt = s.fhssSync) ∧
      v.toNat < 2 ^ 9 ∧
    let r := fun k => (s.readLoc (.reg k)).toNat
    (∀ p ∈ [(Code.ok, 0), (.eOpcode, 1), (.eCrcWidth, 2), (.eCrcPoly, 3), (.eCrcNoinit, 4), (.eCrcLen, 5),
        (.eFhssDomain, 6), (.eFhssNoseq, 7), (.eOtaMode, 8), (.eOtaNocfg, 9), (.eOtaHopint, 10), (.eTxInflight, 11)],
      (s.result = p.1 → r .result = p.2) ∧ (s.firstErr = p.1 → r .firstErr = p.2)) ∧
    (∀ p ∈ [(Mode.compactIndexed, 0), (.compactWide, 1), (.extended, 2), (.extended16, 3)],
      s.otaMode = p.1 → r .otaMode = p.2) ∧
    r .ctrl = s.txInflight.toNat ∧
    r .crc0Cfg = 2 ^ 16 * s.crc0Cfg.poly.toNat + s.crc0Cfg.width.toNat ∧
    r .crc1Cfg = 2 ^ 16 * s.crc1Cfg.poly.toNat + s.crc1Cfg.width.toNat ∧
    r .otaTxFlags = 2 * s.txTlm.toNat + s.txArmed.toNat ∧
    r .otaCursor = 2 ^ 8 * s.auxHalf.toNat + s.swIdx.toNat ∧
    r .otaRxFlags = 4 * s.rxHighAux.toNat + 2 * s.rxTlm.toNat + s.rxArmed.toNat ∧
    r .fhssChan = (s.seq[s.fhssPtr.toNat]'s.fhssPtr.isLt).toNat ∧
    r .fhssFreq = (s.fhssActStart.toNat + s.fhssSpread.toNat * r .fhssChan / 256) % 2 ^ 32 ∧
    r .otaPktLen = (if s.otaValid = false then 0
      else if s.otaMode = .compactIndexed ∨ s.otaMode = .compactWide then 8 else 13) ∧
    (s.fhssHopInterval.toNat = 0 → r .fhssHopSync = 0) ∧
    (s.fhssHopInterval.toNat ≠ 0 →
      r .fhssHopSync = (s.otaNonce.toNat % s.fhssHopInterval.toNat + 1) % 2 ^ 7) ∧
    (1 ≤ s.fhssHopInterval.toNat → s.fhssHopInterval.toNat ≤ 127 →
      r .fhssHopSync = s.otaNonce.toNat % s.fhssHopInterval.toNat + 1)

/-! ## Reset and the SYS group -/

/-- After reset every register and every array element reads 0 (rule R311: every bit of state is 0). -/
def Obligations.ResetReadsZeroEverywhere : Prop := ∀ l : Loc, State.reset.readLoc l = 0

/-- The event `reset` and the command `SYS.RESET` have the same effect, and after either the block is in the reset
state (rule R310). That the event stands among the accesses (log entry 7) and that the model's own port keeps its
pending accesses and its last answer through a reset (log entries 1 and 2) are choices of the model. -/
def Obligations.BothResetsGiveTheResetState : Prop :=
  ∀ (s : State) (rest : List Access),
    (s.pending = .reset :: rest → step s = .next { State.reset with pending := rest, answer := s.answer }) ∧
      (s.pending = .write 0x000 4 0x00000001#32 :: rest →
        step s = .next { State.reset with pending := rest, answer := s.answer })

/-- `SYS.NOP` is never refused, writes `RESULT <- 0` and changes nothing else (rule R141). -/
def Obligations.NopClearsResultOnly : Prop := ∀ s : State, exec .sysNop s = .next { s with result := .ok }

/-- `SYS.RESET` is never refused, not while a transmission is in flight either, and every element of the block takes
its reset value and reads 0 (rule R142). That the model's own port keeps its pending accesses and its last answer is
the model's choice (log entries 1 and 2). -/
def Obligations.SysResetClearsTheBlock : Prop :=
  ∀ s : State, ∃ t, exec .sysReset s = .next t ∧ t = { State.reset with pending := s.pending, answer := s.answer } ∧
    t.result = .ok ∧ ∀ l, t.readLoc l = 0

/-! ## Refusals -/

/-- A refused command writes `RESULT`, `STATUS.ERR` and, if it was 0, `FIRSTERR`, and changes nothing else of the
state, whatever word was written to `CMD`, an illegal one included (rule R281). -/
def Obligations.RefusalChangesNothingElse : Prop :=
  ∀ s t : State, t.result ≠ .ok → (∃ i, exec i s = .next t) ∨ (∃ w, runCommand w s = .next t) →
    t = { s with
      result := t.result, err := true
      firstErr := if s.firstErr = .ok then t.result else s.firstErr }

/-- Once a command has been refused, every step keeps `STATUS.ERR` at 1 and `FIRSTERR` at the first code, unless the
step takes a reset event or a write of `SYS.RESET`, which brings the block back to its reset state (rules R27, R36,
R293). That the model's own port keeps its contents through that reset is the model's choice (log entries 1 and
2). -/
def Obligations.FirstErrorStaysUntilReset : Prop :=
  ∀ s t : State, s.err = true → s.firstErr ≠ .ok → step s = .next t →
    (t.err = true ∧ t.firstErr = s.firstErr) ∨
      ∃ rest, (s.pending = .reset :: rest ∨ s.pending = .write 0x000 4 0x00000001#32 :: rest) ∧
        t = { State.reset with pending := rest, answer := s.answer }

/-- A step takes no validity flag from 1 to 0, unless it takes a reset event or a write of `SYS.RESET`, which brings
the block back to its reset state (rule R30). That the model's own port keeps its contents through that reset is the
model's choice (log entries 1 and 2). -/
def Obligations.ValidityFlagsOnlyRise : Prop :=
  ∀ s t : State, step s = .next t →
    ((s.crc0Valid = true → t.crc0Valid = true) ∧ (s.crc1Valid = true → t.crc1Valid = true) ∧
      (s.fhssValid = true → t.fhssValid = true) ∧ (s.otaValid = true → t.otaValid = true)) ∨
      ∃ rest, (s.pending = .reset :: rest ∨ s.pending = .write 0x000 4 0x00000001#32 :: rest) ∧
        t = { State.reset with pending := rest, answer := s.answer }

/-- A command writes nothing that is not in its "writes" column of rule R144 and not `RESULT` (the table is the spec's
own inference): the frame of every accepted command but `SYS.RESET`, which writes everything. `PKT` changes only
inside the packet, and `OTA.SEAL` changes only the CRC field, `PKT[0][7:2]` and `PKT[7]` or `PKT[11]` and `PKT[12]`;
`OTA.UNPACK` changes `RXCH`, `OTA_RXFLAGS` and `OTA_RX_POWER` only for an RC-data packet whose CRC matches. -/
def Obligations.CommandWritesOnlyItsColumn : Prop :=
  ∀ s t : State, t.result = .ok →
    (exec .sysNop s = .next t → t = { s with result := .ok }) ∧
    (exec .crcInit s = .next t →
      t = { s with result := .ok, tab0 := t.tab0, crc0Cfg := t.crc0Cfg, crc0Valid := t.crc0Valid }) ∧
    (∀ b, exec (.crcCalc b) s = .next t → t = { s with result := .ok, crcResult := t.crcResult }) ∧
    (exec .fhssBuild s = .next t →
      t = { s with
        result := .ok, seq := t.seq, fhssSeqCount := t.fhssSeqCount, fhssActCount := t.fhssActCount
        fhssSync := t.fhssSync, fhssPtr := t.fhssPtr, fhssSpread := t.fhssSpread, fhssActStart := t.fhssActStart
        fhssValid := t.fhssValid }) ∧
    (exec .fhssHop s = .next t → t = { s with result := .ok, fhssPtr := t.fhssPtr }) ∧
    (∀ m, exec (.otaConfig m) s = .next t →
      t = { s with
        result := .ok, otaMode := t.otaMode, otaValid := t.otaValid, tab1 := t.tab1, crc1Cfg := t.crc1Cfg
        crc1Valid := t.crc1Valid, swIdx := t.swIdx, auxHalf := t.auxHalf }) ∧
    (exec .otaPack s = .next t →
      t = { s with result := .ok, pkt := t.pkt, swIdx := t.swIdx, auxHalf := t.auxHalf } ∧
        ∀ k : Fin 13, s.otaMode.pktLen ≤ k.val → t.pkt[k] = s.pkt[k]) ∧
    (exec .otaSeal s = .next t →
      t = { s with result := .ok, pkt := t.pkt } ∧
        (s.otaMode.isCompact = true → t.pkt[0].extractLsb' 0 2 = s.pkt[0].extractLsb' 0 2 ∧
          ∀ k : Fin 13, k.val ≠ 0 → k.val ≠ 7 → t.pkt[k] = s.pkt[k]) ∧
        (s.otaMode.isCompact = false → ∀ k : Fin 13, k.val ≠ 11 → k.val ≠ 12 → t.pkt[k] = s.pkt[k])) ∧
    (exec .otaValidate s = .next t → t = { s with result := .ok, crcOk := t.crcOk }) ∧
    (exec .otaUnpack s = .next t →
      t = { s with
        result := .ok, crcOk := t.crcOk, rxUpdated := t.rxUpdated, rxch := t.rxch, rxArmed := t.rxArmed
        rxTlm := t.rxTlm, rxHighAux := t.rxHighAux, otaRxPower := t.otaRxPower } ∧
        (¬(s.pktCrc = s.storedCrc ∧ s.pkt[0].extractLsb' 0 2 = 0b00#2) →
          t = { s with result := .ok, crcOk := t.crcOk, rxUpdated := t.rxUpdated }))

/-- While `CTRL.TX_INFLIGHT = 1` no command but `SYS.RESET` changes the mode, bank 1, the schedule or its latched
registers, and the commands that would are refused with `E_TX_INFLIGHT` (rules R284, R320). -/
def Obligations.InFlightFreezesCodecAndSchedule : Prop :=
  ∀ s : State, s.txInflight = true →
    exec .fhssBuild s = .next (s.refuse .eTxInflight) ∧
    (∀ m, exec (.otaConfig m) s = .next (s.refuse .eTxInflight)) ∧
    ∀ (i : Instr) (t : State), i ≠ .sysReset → exec i s = .next t →
      t.txInflight = true ∧ t.otaMode = s.otaMode ∧ t.otaValid = s.otaValid ∧ t.tab1 = s.tab1 ∧
        t.crc1Cfg = s.crc1Cfg ∧ t.seq = s.seq ∧ t.fhssSeqCount = s.fhssSeqCount ∧ t.fhssActCount = s.fhssActCount ∧
        t.fhssSync = s.fhssSync ∧ t.fhssSpread = s.fhssSpread ∧ t.fhssActStart = s.fhssActStart ∧
        t.fhssValid = s.fhssValid

/-! ## The CRC unit -/

/-- `CRC.INIT`, whole: the width check first, then the polynomial check, then bank 0 and nothing else takes the table
of the width and polynomial, entry by entry (rule R155). -/
def Obligations.CrcInitBuildsBankZero : Prop :=
  ∀ s : State,
    let w := s.crcBits.toNat
    (w ∉ [8, 14, 16] → exec .crcInit s = .next (s.refuse .eCrcWidth)) ∧
    (w ∈ [8, 14, 16] → 2 ^ w ≤ s.crcPoly.toNat → exec .crcInit s = .next (s.refuse .eCrcPoly)) ∧
    (w ∈ [8, 14, 16] → s.crcPoly.toNat < 2 ^ w →
      ∃ t, exec .crcInit s = .next t ∧
        t = { s with result := .ok, tab0 := t.tab0, crc0Cfg := ⟨s.crcBits, s.crcPoly⟩, crc0Valid := true } ∧
        ∀ i : Fin 256, t.tab0[i] = tabEntry w s.crcPoly (BitVec.ofNat 8 i.val))

/-- `CRC.CALC b`, whole: the bank must hold a table, then the length must be at most 256, then `CRC_RESULT` and
nothing else takes the fold of the bank's table over `BUF[0 .. CRC_LEN-1]` from the initial value truncated to the
bank's width (rule R160). -/
def Obligations.CrcCalcFoldsTheBuffer : Prop :=
  ∀ (b : Bank) (s : State),
    (s.bankValid b = false → exec (.crcCalc b) s = .next (s.refuse .eCrcNoinit)) ∧
    (s.bankValid b = true → 256 < s.crcLen.toNat → exec (.crcCalc b) s = .next (s.refuse .eCrcLen)) ∧
    (s.bankValid b = true → s.crcLen.toNat ≤ 256 →
      exec (.crcCalc b) s = .next { s with
        result := .ok
        crcResult := (s.buf.toList.take s.crcLen.toNat).foldl (foldStep (s.bankCfg b).width.toNat (s.bankTab b))
          (truncW (s.bankCfg b).width.toNat s.crcInitval) })

/-- Length 0: `CRC.CALC` leaves `CRC_INITVAL mod 2^W` in `CRC_RESULT` (rule R161). -/
def Obligations.CrcOfEmptyBufferIsInitialValue : Prop :=
  ∀ (b : Bank) (s : State), s.bankValid b = true → s.crcLen = 0 →
    ∃ t, exec (.crcCalc b) s = .next t ∧
      t.crcResult.toNat = s.crcInitval.toNat % 2 ^ (s.bankCfg b).width.toNat

/-- The facts about any table of a legal width and polynomial (the spec's own inference, rule R158): entry 0 is 0,
entry 1 is the polynomial, the table is linear, doubling the index is one division step, and the entries stay below
`2^W`. -/
def Obligations.CrcTableFacts : Prop :=
  ∀ (w : Nat) (p : Hword), w ∈ [8, 14, 16] → p.toNat < 2 ^ w →
    tabEntry w p 0 = 0 ∧ tabEntry w p 1 = p ∧
      (∀ a b : Byte, tabEntry w p (a ^^^ b) = tabEntry w p a ^^^ tabEntry w p b) ∧
      (∀ a : Byte, a.toNat < 128 → tabEntry w p (a <<< 1) = divStep w p (tabEntry w p a)) ∧
      ∀ a : Byte, (tabEntry w p a).toNat < 2 ^ w

/-- The table method equals the bit-serial method, for every legal width, polynomial, register and byte (the spec's
own inference, rule R159). -/
def Obligations.FoldStepIsBitSerial : Prop :=
  ∀ (w : Nat) (p c : Hword) (d : Byte), w ∈ [8, 14, 16] → p.toNat < 2 ^ w → c.toNat < 2 ^ w →
    foldStep w (crcTable w p) c d = serialStep w p c d

/-- The CRC is linear in the initial value and the buffer, for buffers of equal length (the spec's own inference, rule
R164, consequence (a)). -/
def Obligations.CrcIsLinear : Prop :=
  ∀ (w : Nat) (p a b : Hword) (xs ys : List Byte), w ∈ [8, 14, 16] → p.toNat < 2 ^ w → xs.length = ys.length →
    crcFold w (crcTable w p) (a ^^^ b) (List.zipWith (· ^^^ ·) xs ys) =
      crcFold w (crcTable w p) a xs ^^^ crcFold w (crcTable w p) b ys

/-! ## The FHSS unit -/

/-- `FHSS.BUILD`, whole: the in-flight check, the three domain checks, then the schedule state and nothing else, each
register with the value of its rule (rule R175). -/
def Obligations.FhssBuildSetsTheSchedule : Prop :=
  ∀ s : State,
    let n := s.fhssFreqCount.toNat
    let start := s.fhssFreqStart.toNat
    let stop := s.fhssFreqStop.toNat
    (s.txInflight = true → exec .fhssBuild s = .next (s.refuse .eTxInflight)) ∧
    (s.txInflight = false → n < 2 ∨ 256 < n ∨ stop < start ∨ 2 ^ 24 - 1 < stop - start →
      exec .fhssBuild s = .next (s.refuse .eFhssDomain)) ∧
    (s.txInflight = false → 2 ≤ n → n ≤ 256 → start ≤ stop → stop - start ≤ 2 ^ 24 - 1 →
      ∃ t, exec .fhssBuild s = .next t ∧
        t = { s with
          result := .ok, seq := t.seq, fhssSeqCount := t.fhssSeqCount, fhssActCount := t.fhssActCount
          fhssSync := t.fhssSync, fhssPtr := t.fhssPtr, fhssSpread := t.fhssSpread, fhssActStart := t.fhssActStart
          fhssValid := t.fhssValid } ∧
        t.seq = buildSeq s.fhssSeed n ∧ t.fhssSeqCount.toNat = 256 / n * n ∧ t.fhssActCount.toNat = n ∧
        t.fhssSync.toNat = n / 2 ∧ t.fhssActStart.toNat = start ∧
        t.fhssSpread.toNat = (stop - start) * 256 / (n - 1) ∧ t.fhssPtr = 0 ∧ t.fhssValid = true)

/-- The schedule that the build of rule R175 gives, for every seed and every channel count of the domain: every block
starts on the sync channel and is a permutation of the channels, the sync channel stands at the positions that are
multiples of the count and nowhere else, and no two cyclically adjacent entries are equal (the spec's own inference,
rule R180). -/
def Obligations.BuiltScheduleWellFormed : Prop :=
  ∀ (seed : BitVec 32) (n : Nat), 2 ≤ n → n ≤ 256 →
    WellFormedSchedule (buildSeq seed n) n ∧
      (∀ i, (h : i < 256) → i < 256 / n * n →
        (buildSeq seed n)[i].toNat < n ∧ ((buildSeq seed n)[i].toNat = n / 2 ↔ i % n = 0)) ∧
      ∀ i j, (hi : i < 256) → (hj : j < 256) → i < 256 / n * n → j = (i + 1) % (256 / n * n) →
        (buildSeq seed n)[i] ≠ (buildSeq seed n)[j]

/-- `FHSS.HOP`, whole: a schedule must have been built, then the pointer and nothing else advances by one modulo the
schedule length (rule R185). The premise on the pointer holds in every state a run reaches (`ScheduleMatches`). -/
def Obligations.FhssHopAdvancesThePointer : Prop :=
  ∀ s : State,
    (s.fhssValid = false → exec .fhssHop s = .next (s.refuse .eFhssNoseq)) ∧
    (s.fhssValid = true → s.fhssSeqCount.toNat ≤ 256 → s.fhssPtr.toNat < s.fhssSeqCount.toNat →
      ∃ t, exec .fhssHop s = .next t ∧ t = { s with result := .ok, fhssPtr := t.fhssPtr } ∧
        t.fhssPtr.toNat = (s.fhssPtr.toNat + 1) % s.fhssSeqCount.toNat)

/-- The pointer is monotonic modulo the schedule length: `k` writes of `FHSS.HOP` move it by `k`, and after
`FHSS_SEQ_COUNT` of them it is back where it was (rules R25, R185). -/
def Obligations.HopsCycleThroughTheSchedule : Prop :=
  ∀ (s : State) (k : Nat), s.fhssValid = true → s.fhssSeqCount.toNat ≤ 256 →
    s.fhssPtr.toNat < s.fhssSeqCount.toNat →
      ∃ t, Host.Core.run Sys2Proof.core k (s.issuing k 0x00000021#32) = .next t ∧
        t.fhssPtr.toNat = (s.fhssPtr.toNat + k) % s.fhssSeqCount.toNat ∧
        t = { s with pending := [], result := if k = 0 then s.result else .ok, fhssPtr := t.fhssPtr }

/-- Lockstep: two blocks with the same channel count and with seeds that agree in their low 31 bits, whatever else they
hold, have the same schedule, pointer and channel after an accepted `FHSS.BUILD` and the same number of `FHSS.HOP`
writes (the spec's own inferences, rules R177 and R191). -/
def Obligations.SameSeedKeepsLockstep : Prop :=
  ∀ (a b a' b' : State) (k : Nat), a.fhssSeed.toNat % 2 ^ 31 = b.fhssSeed.toNat % 2 ^ 31 →
    a.fhssFreqCount = b.fhssFreqCount → exec .fhssBuild a = .next a' → a'.result = .ok →
    exec .fhssBuild b = .next b' → b'.result = .ok →
      ∃ t u, Host.Core.run Sys2Proof.core k (a'.issuing k 0x00000021#32) = .next t ∧
        Host.Core.run Sys2Proof.core k (b'.issuing k 0x00000021#32) = .next u ∧
        t.seq = u.seq ∧ t.fhssPtr = u.fhssPtr ∧ t.fhssChan = u.fhssChan

/-- `STATUS.ON_SYNC` is 1 exactly when a schedule is built and the pointer stands at the start of a block (rule R31's
second sentence, the spec's own inference), in every state whose schedule registers agree. -/
def Obligations.OnSyncExactlyAtBlockStart : Prop :=
  ∀ s : State, s.ScheduleMatches →
    (s.onSync = true ↔ s.fhssValid = true ∧ s.fhssPtr.toNat % s.fhssActCount.toNat = 0)

/-- The frequency of the current channel lies in the latched range: channel 0 gives the start frequency exactly,
channel `N-1` gives at most the stop frequency and at least that minus `(N-1)/256` rounded up (rule R187), for the
spread that rule R181 latches. -/
def Obligations.FrequencyStaysInTheDomain : Prop :=
  ∀ (s : State) (n : Nat) (stop : BitVec 32), 2 ≤ n → n ≤ 256 → s.fhssActStart.toNat ≤ stop.toNat →
    stop.toNat - s.fhssActStart.toNat ≤ 2 ^ 24 - 1 → s.fhssSpread = freqSpread s.fhssActStart stop n →
    s.fhssChan.toNat < n →
      let f := (s.readLoc (.reg .fhssFreq)).toNat
      f = s.fhssActStart.toNat + s.fhssSpread.toNat * s.fhssChan.toNat / 256 ∧ f ≤ stop.toNat ∧
        (s.fhssChan.toNat = 0 → f = s.fhssActStart.toNat) ∧
        (s.fhssChan.toNat = n - 1 → stop.toNat ≤ f + (n - 1 + 255) / 256)

/-! ## The OTA unit, transmit side -/

/-- `OTA.CONFIG m`, whole: the in-flight check, the mode check, then the mode, bank 1, both valid flags and both cursor
fields and nothing else change together (rule R201). -/
def Obligations.OtaConfigSwapsTheCodec : Prop :=
  ∀ (m : Nat) (s : State),
    (s.txInflight = true → exec (.otaConfig m) s = .next (s.refuse .eTxInflight)) ∧
    (s.txInflight = false → 3 < m → exec (.otaConfig m) s = .next (s.refuse .eOtaMode)) ∧
    (s.txInflight = false → m ≤ 3 →
      ∃ t, exec (.otaConfig m) s = .next t ∧
        t = { s with
          result := .ok, otaMode := t.otaMode, tab1 := t.tab1, crc1Cfg := t.crc1Cfg, crc1Valid := true
          otaValid := true, swIdx := 0, auxHalf := false } ∧
        t.otaMode.code.toNat = m ∧
        (m ≤ 1 → t.crc1Cfg = ⟨14, 0x2E57#16⟩ ∧
          ∀ i : Fin 256, t.tab1[i] = tabEntry 14 0x2E57#16 (BitVec.ofNat 8 i.val)) ∧
        (2 ≤ m → t.crc1Cfg = ⟨16, 0x3D65#16⟩ ∧
          ∀ i : Fin 256, t.tab1[i] = tabEntry 16 0x3D65#16 (BitVec.ofNat 8 i.val)))

/-- `OTA.PACK` and `OTA.UNPACK` are refused with `E_OTA_NOCFG` while no mode is selected; in mode 1 with the hop interval
not in 1..63, `OTA.PACK` is refused with `E_OTA_HOPINT` whatever `PKT` holds, and `OTA.UNPACK` when `PKT` holds an
RC-data packet (rules R203, R227, R255, R289). -/
def Obligations.OtaPackAndUnpackRefusals : Prop :=
  ∀ s : State,
    (s.otaValid = false →
      exec .otaPack s = .next (s.refuse .eOtaNocfg) ∧ exec .otaUnpack s = .next (s.refuse .eOtaNocfg)) ∧
    (s.otaValid = true → s.otaMode = .compactWide →
      ¬(1 ≤ s.fhssHopInterval.toNat ∧ s.fhssHopInterval.toNat ≤ 63) →
        exec .otaPack s = .next (s.refuse .eOtaHopint)) ∧
    (s.otaValid = true → s.HopRefused → exec .otaUnpack s = .next (s.refuse .eOtaHopint))

/-- `OTA.PACK` in mode 0: an RC-data header, the four stick channels through the compact decimator, the switch that the
cursor names with the telemetry and armed bits, the CRC of the packet, and the cursor moved on by one modulo 7; bytes
8..12 and everything else stay (rules R204, R210, R212, R229). The premises on the cursor and on bank 1 hold in every
state a run reaches. -/
def Obligations.OtaPackIndexed : Prop :=
  ∀ s : State, s.otaValid = true → s.otaMode = .compactIndexed → s.CursorInCycle → s.Bank1Matches →
    let i := s.swIdx.toNat
    let v := if i = 6 then toN s.ch[11] 16 else toN s.ch[switchChan s.swIdx] 8
    ∃ t, exec .otaPack s = .next t ∧ t = { s with result := .ok, pkt := t.pkt, swIdx := t.swIdx } ∧
      t.swIdx.toNat = (i + 1) % 7 ∧ t.pkt[0].extractLsb' 0 2 = 0b00#2 ∧
      lowRegion t.pkt = pack4x10 (enc10Limit s.ch[0]) (enc10Limit s.ch[1]) (enc10Limit s.ch[2]) (enc10Limit s.ch[3]) ∧
      t.pkt[6].toNat = 128 * s.txArmed.toNat + 64 * s.txTlm.toNat + 8 * i + v ∧
      t.storedCrc = t.pktCrc ∧ ∀ k : Fin 13, 8 ≤ k.val → t.pkt[k] = s.pkt[k]

/-- `OTA.PACK` in mode 1 with a legal hop interval: the channels as in mode 0; at index 7 the telemetry bit and the six
power bits, else the 6-bit switch value with the telemetry bit when `1 < OTA_TLM_DENOM < 8` and the 7-bit value
otherwise; neither cursor field moves (rules R204, R215, R216, R229). -/
def Obligations.OtaPackWide : Prop :=
  ∀ s : State, s.otaValid = true → s.otaMode = .compactWide → s.HopReady → s.Bank1Matches →
    let i := wideIndex s.otaNonce
    ∃ t, exec .otaPack s = .next t ∧ t = { s with result := .ok, pkt := t.pkt } ∧
      t.pkt[0].extractLsb' 0 2 = 0b00#2 ∧
      lowRegion t.pkt = pack4x10 (enc10Limit s.ch[0]) (enc10Limit s.ch[1]) (enc10Limit s.ch[2]) (enc10Limit s.ch[3]) ∧
      (i.toNat = 7 →
        t.pkt[6].toNat = 128 * s.txArmed.toNat + 64 * s.txTlm.toNat + s.otaUplinkPower.toNat) ∧
      (i.toNat ≠ 7 → 1 < s.otaTlmDenom.toNat ∧ s.otaTlmDenom.toNat < 8 →
        t.pkt[6].toNat = 128 * s.txArmed.toNat + 64 * s.txTlm.toNat + toN s.ch[switchChan i] 64) ∧
      (i.toNat ≠ 7 → ¬(1 < s.otaTlmDenom.toNat ∧ s.otaTlmDenom.toNat < 8) →
        t.pkt[6].toNat = 128 * s.txArmed.toNat + toN s.ch[switchChan i] 128) ∧
      t.storedCrc = t.pktCrc ∧ ∀ k : Fin 13, 8 ≤ k.val → t.pkt[k] = s.pkt[k]

/-- `OTA.PACK` in modes 2 and 3: the header with type, telemetry bit, power level minus one, aux half and armed bit,
the two channel groups of the mode and the aux half through the truncating decimator, the CRC of the packet, and the
aux half toggled (rules R219 to R223, R229). -/
def Obligations.OtaPackExtended : Prop :=
  ∀ s : State, s.otaValid = true → s.otaMode = .extended ∨ s.otaMode = .extended16 → s.Bank1Matches →
    let g := if s.otaMode = .extended then (if s.auxHalf then ((0 : GroupBase), (9 : GroupBase)) else (0, 5))
      else (if s.auxHalf then (8, 12) else (0, 4))
    ∃ t, exec .otaPack s = .next t ∧ t = { s with result := .ok, pkt := t.pkt, auxHalf := !s.auxHalf } ∧
      t.pkt[0].toNat = 4 * s.txTlm.toNat + 8 * (min (max s.otaUplinkPower.toNat 1) 8 - 1) + 64 * s.auxHalf.toNat
        + 128 * s.txArmed.toNat ∧
      (∀ k : Fin 4, (packedCode (lowRegion t.pkt) k.val).toNat = (groupChan s.ch g.1 k).toNat / 2) ∧
      (∀ k : Fin 4, (packedCode (highRegion t.pkt) k.val).toNat = (groupChan s.ch g.2 k).toNat / 2) ∧
      t.storedCrc = t.pktCrc

/-- What `OTA.PACK` puts into the packet depends on its inputs alone: two blocks that agree on the registers it reads
(rules R144, R200, R203) get the same packet bytes, whatever `PKT` and the rest of the two states hold: nothing of the
previous content survives. -/
def Obligations.PacketDependsOnItsInputsOnly : Prop :=
  ∀ a b a' b' : State, a.otaValid = b.otaValid → a.otaMode = b.otaMode → a.ch = b.ch → a.txArmed = b.txArmed →
    a.txTlm = b.txTlm → a.otaUplinkPower = b.otaUplinkPower → a.otaNonce = b.otaNonce →
    a.otaTlmDenom = b.otaTlmDenom → a.otaCrcInit = b.otaCrcInit → a.fhssHopInterval = b.fhssHopInterval →
    a.swIdx = b.swIdx → a.auxHalf = b.auxHalf → a.tab1 = b.tab1 →
    exec .otaPack a = .next a' → exec .otaPack b = .next b' →
      a'.result = b'.result ∧
        (a'.result = .ok → ∀ k : Fin 13, k.val < a.otaMode.pktLen → a'.pkt[k] = b'.pkt[k])

/-- `OTA.SEAL`: its two checks (rule R230), then the CRC of whatever is in `PKT` is stored in the CRC field as rule R229
says, and nothing else changes. That CRC, in every state (rules R225, R226): in the compact family the fold of bank
1's table over `PKT[0..6]` from the low 14 bits of `OTA_CRC_INIT`, with the six high bits of the first byte replaced by
`FHSS_HOPSYNC` in mode 1 for an RC-data packet and by 0 otherwise; in the extended family the fold over `PKT[0..10]`
as they are, from all of `OTA_CRC_INIT`. -/
def Obligations.OtaSealStoresTheCrc : Prop :=
  ∀ s : State,
    let type := s.pkt[0].extractLsb' 0 2
    let sub : BitVec 6 := if s.otaMode = .compactWide ∧ type = 0b00#2 then
      (s.readLoc (.reg .fhssHopSync)).extractLsb' 0 6 else 0
    (s.otaMode.isCompact = true → s.pktCrc =
      [sub ++ type, s.pkt[1], s.pkt[2], s.pkt[3], s.pkt[4], s.pkt[5], s.pkt[6]].foldl (foldStep 14 s.tab1)
        (s.otaCrcInit &&& 0x3FFF#16)) ∧
    (s.otaMode.isCompact = false → s.pktCrc =
      [s.pkt[0], s.pkt[1], s.pkt[2], s.pkt[3], s.pkt[4], s.pkt[5], s.pkt[6], s.pkt[7], s.pkt[8], s.pkt[9],
        s.pkt[10]].foldl (foldStep 16 s.tab1) s.otaCrcInit) ∧
    (s.otaValid = false → exec .otaSeal s = .next (s.refuse .eOtaNocfg)) ∧
    (s.otaValid = true → s.HopRefused → exec .otaSeal s = .next (s.refuse .eOtaHopint)) ∧
    (s.otaValid = true → ¬s.HopRefused →
      ∃ t, exec .otaSeal s = .next t ∧ t = { s with result := .ok, pkt := t.pkt } ∧
        (s.otaMode.isCompact = true →
          t.pkt[0] = s.pktCrc.extractLsb' 8 6 ++ s.pkt[0].extractLsb' 0 2 ∧ t.pkt[7] = s.pktCrc.extractLsb' 0 8 ∧
            ∀ k : Fin 13, k.val ≠ 0 → k.val ≠ 7 → t.pkt[k] = s.pkt[k]) ∧
        (s.otaMode.isCompact = false →
          t.pkt[11] = s.pktCrc.extractLsb' 0 8 ∧ t.pkt[12] = s.pktCrc.extractLsb' 8 8 ∧
            ∀ k : Fin 13, k.val ≠ 11 → k.val ≠ 12 → t.pkt[k] = s.pkt[k]))

/-- Coverage of the Indexed policy: among any seven consecutive `OTA.PACK` writes in mode 0 each switch index is the
cursor exactly of one (the spec's own inference, rule R213). -/
def Obligations.IndexedPolicyCoversEverySwitch : Prop :=
  ∀ s : State, s.otaValid = true → s.otaMode = .compactIndexed → s.CursorInCycle →
    ∀ k : Nat, k < 7 → ∃ j : Nat, j < 7 ∧
      (∃ t, Host.Core.run Sys2Proof.core j (s.issuing j 0x00000031#32) = .next t ∧ t.swIdx.toNat = k) ∧
      ∀ j' : Nat, j' < 7 → j' ≠ j →
        ∃ t, Host.Core.run Sys2Proof.core j' (s.issuing j' 0x00000031#32) = .next t ∧ t.swIdx.toNat ≠ k

/-- Coverage of the Wide policy: in any 16 consecutive nonces every index 0..7 occurs, and still does when every nonce
of one residue modulo a power of two from 2 to 128 is given up to telemetry (the spec's own inference, rule R217). -/
def Obligations.WidePolicyCoversEverySwitch : Prop :=
  ∀ (start : BitVec 8) (k : BitVec 3) (e r : Nat), 1 ≤ e → e ≤ 7 →
    ∃ j : Nat, j < 16 ∧ wideIndex (start + BitVec.ofNat 8 j) = k ∧ (start + BitVec.ofNat 8 j).toNat % 2 ^ e ≠ r

/-! ## The OTA unit, receive side -/

/-- `OTA.VALIDATE`, whole: its two checks, then `STATUS.CRC_OK` and nothing else takes the outcome of the comparison of
the recomputed CRC with the stored field (rule R251), which is the header's six high bits over byte 7 in the compact
family and byte 12 over byte 11 in the extended family (rule R252). -/
def Obligations.OtaValidateComparesTheCrc : Prop :=
  ∀ s : State,
    (s.otaMode.isCompact = true → s.storedCrc.toNat = 2 ^ 8 * (s.pkt[0].toNat / 4) + s.pkt[7].toNat) ∧
    (s.otaMode.isCompact = false → s.storedCrc.toNat = 2 ^ 8 * s.pkt[12].toNat + s.pkt[11].toNat) ∧
    (s.otaValid = false → exec .otaValidate s = .next (s.refuse .eOtaNocfg)) ∧
    (s.otaValid = true → s.HopRefused → exec .otaValidate s = .next (s.refuse .eOtaHopint)) ∧
    (s.otaValid = true → ¬s.HopRefused →
      exec .otaValidate s = .next { s with result := .ok, crcOk := decide (s.pktCrc = s.storedCrc) })

/-- A packet just produced by `OTA.PACK` or `OTA.SEAL`, with no register changed in between, validates, in every state
whose bank 1 agrees with the mode; in mode 1 an RC-data packet still validates after the nonce alone has changed
exactly when the new nonce leaves the same remainder by the hop interval (the spec's own inference, rule R253). -/
def Obligations.FreshPacketValidates : Prop :=
  ∀ (i : Instr) (s t : State), i = .otaPack ∨ i = .otaSeal → s.Bank1Matches → exec i s = .next t → t.result = .ok →
    exec .otaValidate t = .next { t with crcOk := true } ∧
      (s.otaMode = .compactWide → t.pkt[0].extractLsb' 0 2 = 0b00#2 → ∀ n : BitVec 8,
        exec .otaValidate { t with otaNonce := n } = .next { t with
          otaNonce := n
          crcOk := decide (n.toNat % s.fhssHopInterval.toNat = s.otaNonce.toNat % s.fhssHopInterval.toNat) })

/-- Flipping any single bit of a packet that validates makes `OTA.VALIDATE` give `CRC_OK = 0`, in all four modes, the
type bits in mode 1 included, unless the flipped packet is refused for its hop interval (the spec's own inference,
rule R254; it is stronger than the source's bound, conflict C6). -/
def Obligations.SingleBitFlipIsDetected : Prop :=
  ∀ (s : State) (k : Fin 13) (b : Fin 8), s.otaValid = true → s.Bank1Matches → s.pktCrc = s.storedCrc →
    k.val < s.otaMode.pktLen → ¬(s.flipPkt k b).HopRefused →
      exec .otaValidate (s.flipPkt k b) = .next { s.flipPkt k b with result := .ok, crcOk := false }

/-- Silent drop: `OTA.UNPACK` of a packet whose CRC does not match is accepted and writes `STATUS.CRC_OK = 0`,
`STATUS.RX_UPDATED = 0` and `RESULT = 0` and nothing else, `RXCH`, `OTA_RXFLAGS` and `OTA_RX_POWER` included
(rule R256). -/
def Obligations.UnpackDropsBadCrcSilently : Prop :=
  ∀ s : State, s.otaValid = true → ¬s.HopRefused → s.pktCrc ≠ s.storedCrc →
    exec .otaUnpack s = .next { s with result := .ok, crcOk := false, rxUpdated := false }

/-- A packet with a valid CRC whose type is not `0b00` is not decoded: `CRC_OK = 1`, `RX_UPDATED = 0`, everything else
unchanged, and the hop interval is not looked at (rule R257). -/
def Obligations.UnpackLeavesNonRcPacketAlone : Prop :=
  ∀ s : State, s.otaValid = true → s.pktCrc = s.storedCrc → s.pkt[0].extractLsb' 0 2 ≠ 0b00#2 →
    exec .otaUnpack s = .next { s with result := .ok, crcOk := true, rxUpdated := false }

/-- `OTA.UNPACK` of a valid RC-data packet in mode 0: the receive registers of rule R259's first row and no others, the
channels by rules R260 to R263. -/
def Obligations.OtaUnpackIndexed : Prop :=
  ∀ s : State, s.otaValid = true → s.otaMode = .compactIndexed → s.pktCrc = s.storedCrc →
    s.pkt[0].extractLsb' 0 2 = 0b00#2 →
      let i := (s.pkt[6].extractLsb' 3 3).toNat
      ∃ t, exec .otaUnpack s = .next t ∧
        t = { s with
          result := .ok, crcOk := true, rxUpdated := true, rxArmed := s.pkt[6].getLsbD 7
          rxTlm := s.pkt[6].getLsbD 6, rxch := t.rxch } ∧
        (∀ k : Fin 4, t.rxch[k.val] = dec10Limit (packedCode (lowRegion s.pkt) k.val)) ∧
        (6 ≤ i → t.rxch[11] = fromN (s.pkt[6].toNat % 16) 15) ∧
        (∀ j : Fin 6, i = j.val → t.rxch[5 + j.val] = fromN (s.pkt[6].toNat % 8) 7) ∧
        ∀ k : Fin 16, 4 ≤ k.val → k.val ≠ 5 + min i 6 → t.rxch[k] = s.rxch[k]

/-- `OTA.UNPACK` of a valid RC-data packet in mode 1 with a legal hop interval: the receive registers of rule R259's
rows for mode 1 and no others, by the receiver's own nonce and telemetry denominator (rules R260, R263, R264). -/
def Obligations.OtaUnpackWide : Prop :=
  ∀ s : State, s.otaValid = true → s.otaMode = .compactWide → s.HopReady → s.pktCrc = s.storedCrc →
    s.pkt[0].extractLsb' 0 2 = 0b00#2 →
      let i := (wideIndex s.otaNonce).toNat
      let every := 1 < s.otaTlmDenom.toNat ∧ s.otaTlmDenom.toNat < 8
      ∃ t, exec .otaUnpack s = .next t ∧
        t = { s with
          result := .ok, crcOk := true, rxUpdated := true, rxArmed := s.pkt[6].getLsbD 7, rxTlm := t.rxTlm
          otaRxPower := t.otaRxPower, rxch := t.rxch } ∧
        (every ∨ i = 7 → t.rxTlm = s.pkt[6].getLsbD 6) ∧ (¬every ∧ i ≠ 7 → t.rxTlm = s.rxTlm) ∧
        (i = 7 → t.otaRxPower.toNat = s.pkt[6].toNat % 64) ∧ (i ≠ 7 → t.otaRxPower = s.otaRxPower) ∧
        (∀ k : Fin 4, t.rxch[k.val] = dec10Limit (packedCode (lowRegion s.pkt) k.val)) ∧
        (∀ j : Fin 7, i = j.val → every → t.rxch[5 + j.val] = fromN (s.pkt[6].toNat % 64) 63) ∧
        (∀ j : Fin 7, i = j.val → ¬every → t.rxch[5 + j.val] = fromN (s.pkt[6].toNat % 128) 127) ∧
        ∀ k : Fin 16, 4 ≤ k.val → (i = 7 ∨ k.val ≠ 5 + i) → t.rxch[k] = s.rxch[k]

/-- `OTA.UNPACK` of a valid RC-data packet in modes 2 and 3: the flags, the power level and the two groups that the
packet's own aux-half bit selects, and nothing else (rules R259, R265, R266). -/
def Obligations.OtaUnpackExtended : Prop :=
  ∀ s : State, s.otaValid = true → s.otaMode = .extended ∨ s.otaMode = .extended16 → s.pktCrc = s.storedCrc →
    s.pkt[0].extractLsb' 0 2 = 0b00#2 →
      let h := s.pkt[0].getLsbD 6
      let g := if s.otaMode = .extended then (if h then ((0 : GroupBase), (9 : GroupBase)) else (0, 5))
        else (if h then (8, 12) else (0, 4))
      ∃ t, exec .otaUnpack s = .next t ∧
        t = { s with
          result := .ok, crcOk := true, rxUpdated := true, rxArmed := s.pkt[0].getLsbD 7
          rxTlm := s.pkt[0].getLsbD 2, rxHighAux := h, otaRxPower := t.otaRxPower, rxch := t.rxch } ∧
        t.otaRxPower.toNat = s.pkt[0].toNat / 8 % 8 + 1 ∧
        (∀ k : Fin 4, (groupChan t.rxch g.1 k).toNat = 2 * (packedCode (lowRegion s.pkt) k.val).toNat) ∧
        (∀ k : Fin 4, (groupChan t.rxch g.2 k).toNat = 2 * (packedCode (highRegion s.pkt) k.val).toNat) ∧
        ∀ k : Fin 16, (k.val < g.1.val ∨ g.1.val + 3 < k.val) → (k.val < g.2.val ∨ g.2.val + 3 < k.val) →
          t.rxch[k] = s.rxch[k]

/-! ## Round trip -/

/-- The channel and packing codes: `unpack4x10` is the inverse of `pack4x10` (rule R120); re-encoding an expanded
compact code gives the code back and the compact round trip errs by at most 1 from the clamped value (rules R205,
R261); the extended round trip clears the lowest bit (rules R223, R266). -/
def Obligations.ChannelCodesRoundTrip : Prop :=
  (∀ c0 c1 c2 c3 : Code10, packedCode (pack4x10 c0 c1 c2 c3) 0 = c0 ∧ packedCode (pack4x10 c0 c1 c2 c3) 1 = c1 ∧
    packedCode (pack4x10 c0 c1 c2 c3) 2 = c2 ∧ packedCode (pack4x10 c0 c1 c2 c3) 3 = c3) ∧
  (∀ v : Code10, enc10Limit (dec10Limit v) = v) ∧
  (∀ x : Chan, chanDist (dec10Limit (enc10Limit x)).toNat (min (max x.toNat 172) 1811) ≤ 1) ∧
  ∀ x : Chan, (dec10Trunc (enc10Trunc x)).toNat = x.toNat / 2 * 2

/-- Round trip in mode 0 (the spec's own inference, rule R267): block `r`, configured like block `s`, unpacks the
packet that `s` packs; the CRC passes, and the channels, the switch and the flags come back within the format's
resolution. -/
def Obligations.IndexedRoundTrip : Prop :=
  ∀ s t r : State, s.otaValid = true → s.otaMode = .compactIndexed → s.CursorInCycle → s.Bank1Matches →
    r.otaValid = true → r.otaMode = .compactIndexed → r.Bank1Matches → r.otaCrcInit = s.otaCrcInit →
    exec .otaPack s = .next t →
      ∃ u, exec .otaUnpack (r.withPktOf t) = .next u ∧ u.result = .ok ∧ u.crcOk = true ∧ u.rxUpdated = true ∧
        u.rxArmed = s.txArmed ∧ u.rxTlm = s.txTlm ∧
        (∀ k : Fin 4, chanDist u.rxch[k.val].toNat (min (max s.ch[k.val].toNat 172) 1811) ≤ 1) ∧
        (s.swIdx.toNat = 6 → chanDist u.rxch[11].toNat (min (max s.ch[11].toNat 191) 1792) ≤ 100) ∧
        ∀ j : Fin 6, s.swIdx.toNat = j.val →
          chanDist u.rxch[5 + j.val].toNat (min (max s.ch[5 + j.val].toNat 191) 1792) ≤ 200

/-- Round trip in mode 1 (the spec's own inference, rule R267): as in mode 0, with the same nonce, telemetry
denominator and legal hop interval on both sides. -/
def Obligations.WideRoundTrip : Prop :=
  ∀ s t r : State, s.otaValid = true → s.otaMode = .compactWide → s.HopReady → s.Bank1Matches →
    r.otaValid = true → r.otaMode = .compactWide → r.Bank1Matches → r.otaCrcInit = s.otaCrcInit →
    r.otaNonce = s.otaNonce → r.otaTlmDenom = s.otaTlmDenom → r.fhssHopInterval = s.fhssHopInterval →
    exec .otaPack s = .next t →
      let i := (wideIndex s.otaNonce).toNat
      let every := 1 < s.otaTlmDenom.toNat ∧ s.otaTlmDenom.toNat < 8
      ∃ u, exec .otaUnpack (r.withPktOf t) = .next u ∧ u.result = .ok ∧ u.crcOk = true ∧ u.rxUpdated = true ∧
        u.rxArmed = s.txArmed ∧ (every ∨ i = 7 → u.rxTlm = s.txTlm) ∧
        (i = 7 → u.otaRxPower = s.otaUplinkPower) ∧
        (∀ k : Fin 4, chanDist u.rxch[k.val].toNat (min (max s.ch[k.val].toNat 172) 1811) ≤ 1) ∧
        ∀ j : Fin 7, i = j.val →
          chanDist u.rxch[5 + j.val].toNat (min (max s.ch[5 + j.val].toNat 191) 1792) ≤ if every then 25 else 13

/-- Round trip in modes 2 and 3 (the spec's own inference, rule R267): the channels of the two groups come back with
their lowest bit cleared, the flags and the aux half as sent, the power level clamped to 1..8. -/
def Obligations.ExtendedRoundTrip : Prop :=
  ∀ s t r : State, s.otaValid = true → s.otaMode = .extended ∨ s.otaMode = .extended16 → s.Bank1Matches →
    r.otaValid = true → r.otaMode = s.otaMode → r.Bank1Matches → r.otaCrcInit = s.otaCrcInit →
    exec .otaPack s = .next t →
      let g := groupOffsets (s.otaMode == .extended16) s.auxHalf
      ∃ u, exec .otaUnpack (r.withPktOf t) = .next u ∧ u.result = .ok ∧ u.crcOk = true ∧ u.rxUpdated = true ∧
        u.rxArmed = s.txArmed ∧ u.rxTlm = s.txTlm ∧ u.rxHighAux = s.auxHalf ∧
        u.otaRxPower.toNat = min (max s.otaUplinkPower.toNat 1) 8 ∧
        (∀ k : Fin 4, (groupChan u.rxch g.1 k).toNat = (groupChan s.ch g.1 k).toNat / 2 * 2) ∧
        ∀ k : Fin 4, (groupChan u.rxch g.2 k).toNat = (groupChan s.ch g.2 k).toNat / 2 * 2

/-! ## Invariants -/

/-- The reset state is coherent (rule R311). -/
def Obligations.ResetIsCoherent : Prop := State.reset.Coherent

/-- Every step keeps both banks in agreement: bank 0's table with `CRC0_CFG`, bank 1's table and configuration with the
mode, `CRC1_VALID` with `OTA_VALID` (rules R30, R92, R95, R97). -/
def Obligations.StepKeepsBanksMatched : Prop :=
  ∀ s t : State, s.Bank0Matches → s.Bank1Matches → step s = .next t → t.Bank0Matches ∧ t.Bank1Matches

/-- Every step keeps the whole state coherent, from every coherent state: the error registers, the cursor, both banks,
and the schedule with its registers, its pointer inside it and every block a permutation that starts on the sync
channel (rules R27, R30, R51, R62, R71, R92, R95, R180). -/
def Obligations.StepKeepsCoherence : Prop := ∀ s t : State, s.Coherent → step s = .next t → t.Coherent
end

