-- ==== Sys2Proof/Laws/State.lean ====
section
/-! SUPPORT. What each update of the state leaves in each field: one lemma per field per update, so that no proof
unfolds a record update. -/

namespace Sys2Proof.Machine


/-! ## `State.reset` -/

@[simp] theorem State.reset_result : State.reset.result = .ok := rfl
@[simp] theorem State.reset_firstErr : State.reset.firstErr = .ok := rfl
@[simp] theorem State.reset_err : State.reset.err = false := rfl
@[simp] theorem State.reset_crcOk : State.reset.crcOk = false := rfl
@[simp] theorem State.reset_rxUpdated : State.reset.rxUpdated = false := rfl
@[simp] theorem State.reset_crc0Valid : State.reset.crc0Valid = false := rfl
@[simp] theorem State.reset_crc1Valid : State.reset.crc1Valid = false := rfl
@[simp] theorem State.reset_fhssValid : State.reset.fhssValid = false := rfl
@[simp] theorem State.reset_otaValid : State.reset.otaValid = false := rfl
@[simp] theorem State.reset_txInflight : State.reset.txInflight = false := rfl
@[simp] theorem State.reset_crcBits : State.reset.crcBits = 0 := rfl
@[simp] theorem State.reset_crcPoly : State.reset.crcPoly = 0 := rfl
@[simp] theorem State.reset_crcLen : State.reset.crcLen = 0 := rfl
@[simp] theorem State.reset_crcInitval : State.reset.crcInitval = 0 := rfl
@[simp] theorem State.reset_crcResult : State.reset.crcResult = 0 := rfl
@[simp] theorem State.reset_crc0Cfg : State.reset.crc0Cfg = ⟨0, 0⟩ := rfl
@[simp] theorem State.reset_crc1Cfg : State.reset.crc1Cfg = ⟨0, 0⟩ := rfl
@[simp] theorem State.reset_tab0 : State.reset.tab0 = Vector.replicate 256 0 := rfl
@[simp] theorem State.reset_tab1 : State.reset.tab1 = Vector.replicate 256 0 := rfl
@[simp] theorem State.reset_buf : State.reset.buf = Vector.replicate 256 0 := rfl
@[simp] theorem State.reset_fhssSeed : State.reset.fhssSeed = 0 := rfl
@[simp] theorem State.reset_fhssFreqCount : State.reset.fhssFreqCount = 0 := rfl
@[simp] theorem State.reset_fhssFreqStart : State.reset.fhssFreqStart = 0 := rfl
@[simp] theorem State.reset_fhssFreqStop : State.reset.fhssFreqStop = 0 := rfl
@[simp] theorem State.reset_fhssHopInterval : State.reset.fhssHopInterval = 0 := rfl
@[simp] theorem State.reset_fhssSeqCount : State.reset.fhssSeqCount = 0 := rfl
@[simp] theorem State.reset_fhssActCount : State.reset.fhssActCount = 0 := rfl
@[simp] theorem State.reset_fhssSync : State.reset.fhssSync = 0 := rfl
@[simp] theorem State.reset_fhssPtr : State.reset.fhssPtr = 0 := rfl
@[simp] theorem State.reset_fhssSpread : State.reset.fhssSpread = 0 := rfl
@[simp] theorem State.reset_fhssActStart : State.reset.fhssActStart = 0 := rfl
@[simp] theorem State.reset_seq : State.reset.seq = Vector.replicate 256 0 := rfl
@[simp] theorem State.reset_otaMode : State.reset.otaMode = .compactIndexed := rfl
@[simp] theorem State.reset_otaNonce : State.reset.otaNonce = 0 := rfl
@[simp] theorem State.reset_otaTlmDenom : State.reset.otaTlmDenom = 0 := rfl
@[simp] theorem State.reset_otaCrcInit : State.reset.otaCrcInit = 0 := rfl
@[simp] theorem State.reset_txArmed : State.reset.txArmed = false := rfl
@[simp] theorem State.reset_txTlm : State.reset.txTlm = false := rfl
@[simp] theorem State.reset_otaUplinkPower : State.reset.otaUplinkPower = 0 := rfl
@[simp] theorem State.reset_swIdx : State.reset.swIdx = 0 := rfl
@[simp] theorem State.reset_auxHalf : State.reset.auxHalf = false := rfl
@[simp] theorem State.reset_rxArmed : State.reset.rxArmed = false := rfl
@[simp] theorem State.reset_rxTlm : State.reset.rxTlm = false := rfl
@[simp] theorem State.reset_rxHighAux : State.reset.rxHighAux = false := rfl
@[simp] theorem State.reset_otaRxPower : State.reset.otaRxPower = 0 := rfl
@[simp] theorem State.reset_ch : State.reset.ch = Vector.replicate 16 0 := rfl
@[simp] theorem State.reset_rxch : State.reset.rxch = Vector.replicate 16 0 := rfl
@[simp] theorem State.reset_pkt : State.reset.pkt = Vector.replicate 13 0 := rfl
@[simp] theorem State.reset_pending : State.reset.pending = [] := rfl
@[simp] theorem State.reset_answer : State.reset.answer = none := rfl

/-! ## `State.accept` -/

@[simp] theorem State.accept_result (s : State) : s.accept.result = .ok := rfl
@[simp] theorem State.accept_firstErr (s : State) : s.accept.firstErr = s.firstErr := rfl
@[simp] theorem State.accept_err (s : State) : s.accept.err = s.err := rfl
@[simp] theorem State.accept_crcOk (s : State) : s.accept.crcOk = s.crcOk := rfl
@[simp] theorem State.accept_rxUpdated (s : State) : s.accept.rxUpdated = s.rxUpdated := rfl
@[simp] theorem State.accept_crc0Valid (s : State) : s.accept.crc0Valid = s.crc0Valid := rfl
@[simp] theorem State.accept_crc1Valid (s : State) : s.accept.crc1Valid = s.crc1Valid := rfl
@[simp] theorem State.accept_fhssValid (s : State) : s.accept.fhssValid = s.fhssValid := rfl
@[simp] theorem State.accept_otaValid (s : State) : s.accept.otaValid = s.otaValid := rfl
@[simp] theorem State.accept_txInflight (s : State) : s.accept.txInflight = s.txInflight := rfl
@[simp] theorem State.accept_crcBits (s : State) : s.accept.crcBits = s.crcBits := rfl
@[simp] theorem State.accept_crcPoly (s : State) : s.accept.crcPoly = s.crcPoly := rfl
@[simp] theorem State.accept_crcLen (s : State) : s.accept.crcLen = s.crcLen := rfl
@[simp] theorem State.accept_crcInitval (s : State) : s.accept.crcInitval = s.crcInitval := rfl
@[simp] theorem State.accept_crcResult (s : State) : s.accept.crcResult = s.crcResult := rfl
@[simp] theorem State.accept_crc0Cfg (s : State) : s.accept.crc0Cfg = s.crc0Cfg := rfl
@[simp] theorem State.accept_crc1Cfg (s : State) : s.accept.crc1Cfg = s.crc1Cfg := rfl
@[simp] theorem State.accept_tab0 (s : State) : s.accept.tab0 = s.tab0 := rfl
@[simp] theorem State.accept_tab1 (s : State) : s.accept.tab1 = s.tab1 := rfl
@[simp] theorem State.accept_buf (s : State) : s.accept.buf = s.buf := rfl
@[simp] theorem State.accept_fhssSeed (s : State) : s.accept.fhssSeed = s.fhssSeed := rfl
@[simp] theorem State.accept_fhssFreqCount (s : State) : s.accept.fhssFreqCount = s.fhssFreqCount := rfl
@[simp] theorem State.accept_fhssFreqStart (s : State) : s.accept.fhssFreqStart = s.fhssFreqStart := rfl
@[simp] theorem State.accept_fhssFreqStop (s : State) : s.accept.fhssFreqStop = s.fhssFreqStop := rfl
@[simp] theorem State.accept_fhssHopInterval (s : State) : s.accept.fhssHopInterval = s.fhssHopInterval := rfl
@[simp] theorem State.accept_fhssSeqCount (s : State) : s.accept.fhssSeqCount = s.fhssSeqCount := rfl
@[simp] theorem State.accept_fhssActCount (s : State) : s.accept.fhssActCount = s.fhssActCount := rfl
@[simp] theorem State.accept_fhssSync (s : State) : s.accept.fhssSync = s.fhssSync := rfl
@[simp] theorem State.accept_fhssPtr (s : State) : s.accept.fhssPtr = s.fhssPtr := rfl
@[simp] theorem State.accept_fhssSpread (s : State) : s.accept.fhssSpread = s.fhssSpread := rfl
@[simp] theorem State.accept_fhssActStart (s : State) : s.accept.fhssActStart = s.fhssActStart := rfl
@[simp] theorem State.accept_seq (s : State) : s.accept.seq = s.seq := rfl
@[simp] theorem State.accept_otaMode (s : State) : s.accept.otaMode = s.otaMode := rfl
@[simp] theorem State.accept_otaNonce (s : State) : s.accept.otaNonce = s.otaNonce := rfl
@[simp] theorem State.accept_otaTlmDenom (s : State) : s.accept.otaTlmDenom = s.otaTlmDenom := rfl
@[simp] theorem State.accept_otaCrcInit (s : State) : s.accept.otaCrcInit = s.otaCrcInit := rfl
@[simp] theorem State.accept_txArmed (s : State) : s.accept.txArmed = s.txArmed := rfl
@[simp] theorem State.accept_txTlm (s : State) : s.accept.txTlm = s.txTlm := rfl
@[simp] theorem State.accept_otaUplinkPower (s : State) : s.accept.otaUplinkPower = s.otaUplinkPower := rfl
@[simp] theorem State.accept_swIdx (s : State) : s.accept.swIdx = s.swIdx := rfl
@[simp] theorem State.accept_auxHalf (s : State) : s.accept.auxHalf = s.auxHalf := rfl
@[simp] theorem State.accept_rxArmed (s : State) : s.accept.rxArmed = s.rxArmed := rfl
@[simp] theorem State.accept_rxTlm (s : State) : s.accept.rxTlm = s.rxTlm := rfl
@[simp] theorem State.accept_rxHighAux (s : State) : s.accept.rxHighAux = s.rxHighAux := rfl
@[simp] theorem State.accept_otaRxPower (s : State) : s.accept.otaRxPower = s.otaRxPower := rfl
@[simp] theorem State.accept_ch (s : State) : s.accept.ch = s.ch := rfl
@[simp] theorem State.accept_rxch (s : State) : s.accept.rxch = s.rxch := rfl
@[simp] theorem State.accept_pkt (s : State) : s.accept.pkt = s.pkt := rfl
@[simp] theorem State.accept_pending (s : State) : s.accept.pending = s.pending := rfl
@[simp] theorem State.accept_answer (s : State) : s.accept.answer = s.answer := rfl

/-! ## `State.refuse` -/

@[simp] theorem State.refuse_result (s : State) (c : Code) : (s.refuse c).result = c := rfl
@[simp] theorem State.refuse_firstErr (s : State) (c : Code) :
    (s.refuse c).firstErr = if s.firstErr = .ok then c else s.firstErr := rfl
@[simp] theorem State.refuse_err (s : State) (c : Code) : (s.refuse c).err = true := rfl
@[simp] theorem State.refuse_crcOk (s : State) (c : Code) : (s.refuse c).crcOk = s.crcOk := rfl
@[simp] theorem State.refuse_rxUpdated (s : State) (c : Code) : (s.refuse c).rxUpdated = s.rxUpdated := rfl
@[simp] theorem State.refuse_crc0Valid (s : State) (c : Code) : (s.refuse c).crc0Valid = s.crc0Valid := rfl
@[simp] theorem State.refuse_crc1Valid (s : State) (c : Code) : (s.refuse c).crc1Valid = s.crc1Valid := rfl
@[simp] theorem State.refuse_fhssValid (s : State) (c : Code) : (s.refuse c).fhssValid = s.fhssValid := rfl
@[simp] theorem State.refuse_otaValid (s : State) (c : Code) : (s.refuse c).otaValid = s.otaValid := rfl
@[simp] theorem State.refuse_txInflight (s : State) (c : Code) : (s.refuse c).txInflight = s.txInflight := rfl
@[simp] theorem State.refuse_crcBits (s : State) (c : Code) : (s.refuse c).crcBits = s.crcBits := rfl
@[simp] theorem State.refuse_crcPoly (s : State) (c : Code) : (s.refuse c).crcPoly = s.crcPoly := rfl
@[simp] theorem State.refuse_crcLen (s : State) (c : Code) : (s.refuse c).crcLen = s.crcLen := rfl
@[simp] theorem State.refuse_crcInitval (s : State) (c : Code) : (s.refuse c).crcInitval = s.crcInitval := rfl
@[simp] theorem State.refuse_crcResult (s : State) (c : Code) : (s.refuse c).crcResult = s.crcResult := rfl
@[simp] theorem State.refuse_crc0Cfg (s : State) (c : Code) : (s.refuse c).crc0Cfg = s.crc0Cfg := rfl
@[simp] theorem State.refuse_crc1Cfg (s : State) (c : Code) : (s.refuse c).crc1Cfg = s.crc1Cfg := rfl
@[simp] theorem State.refuse_tab0 (s : State) (c : Code) : (s.refuse c).tab0 = s.tab0 := rfl
@[simp] theorem State.refuse_tab1 (s : State) (c : Code) : (s.refuse c).tab1 = s.tab1 := rfl
@[simp] theorem State.refuse_buf (s : State) (c : Code) : (s.refuse c).buf = s.buf := rfl
@[simp] theorem State.refuse_fhssSeed (s : State) (c : Code) : (s.refuse c).fhssSeed = s.fhssSeed := rfl
@[simp] theorem State.refuse_fhssFreqCount (s : State) (c : Code) :
    (s.refuse c).fhssFreqCount = s.fhssFreqCount := rfl
@[simp] theorem State.refuse_fhssFreqStart (s : State) (c : Code) :
    (s.refuse c).fhssFreqStart = s.fhssFreqStart := rfl
@[simp] theorem State.refuse_fhssFreqStop (s : State) (c : Code) : (s.refuse c).fhssFreqStop = s.fhssFreqStop := rfl
@[simp] theorem State.refuse_fhssHopInterval (s : State) (c : Code) :
    (s.refuse c).fhssHopInterval = s.fhssHopInterval := rfl
@[simp] theorem State.refuse_fhssSeqCount (s : State) (c : Code) : (s.refuse c).fhssSeqCount = s.fhssSeqCount := rfl
@[simp] theorem State.refuse_fhssActCount (s : State) (c : Code) : (s.refuse c).fhssActCount = s.fhssActCount := rfl
@[simp] theorem State.refuse_fhssSync (s : State) (c : Code) : (s.refuse c).fhssSync = s.fhssSync := rfl
@[simp] theorem State.refuse_fhssPtr (s : State) (c : Code) : (s.refuse c).fhssPtr = s.fhssPtr := rfl
@[simp] theorem State.refuse_fhssSpread (s : State) (c : Code) : (s.refuse c).fhssSpread = s.fhssSpread := rfl
@[simp] theorem State.refuse_fhssActStart (s : State) (c : Code) : (s.refuse c).fhssActStart = s.fhssActStart := rfl
@[simp] theorem State.refuse_seq (s : State) (c : Code) : (s.refuse c).seq = s.seq := rfl
@[simp] theorem State.refuse_otaMode (s : State) (c : Code) : (s.refuse c).otaMode = s.otaMode := rfl
@[simp] theorem State.refuse_otaNonce (s : State) (c : Code) : (s.refuse c).otaNonce = s.otaNonce := rfl
@[simp] theorem State.refuse_otaTlmDenom (s : State) (c : Code) : (s.refuse c).otaTlmDenom = s.otaTlmDenom := rfl
@[simp] theorem State.refuse_otaCrcInit (s : State) (c : Code) : (s.refuse c).otaCrcInit = s.otaCrcInit := rfl
@[simp] theorem State.refuse_txArmed (s : State) (c : Code) : (s.refuse c).txArmed = s.txArmed := rfl
@[simp] theorem State.refuse_txTlm (s : State) (c : Code) : (s.refuse c).txTlm = s.txTlm := rfl
@[simp] theorem State.refuse_otaUplinkPower (s : State) (c : Code) :
    (s.refuse c).otaUplinkPower = s.otaUplinkPower := rfl
@[simp] theorem State.refuse_swIdx (s : State) (c : Code) : (s.refuse c).swIdx = s.swIdx := rfl
@[simp] theorem State.refuse_auxHalf (s : State) (c : Code) : (s.refuse c).auxHalf = s.auxHalf := rfl
@[simp] theorem State.refuse_rxArmed (s : State) (c : Code) : (s.refuse c).rxArmed = s.rxArmed := rfl
@[simp] theorem State.refuse_rxTlm (s : State) (c : Code) : (s.refuse c).rxTlm = s.rxTlm := rfl
@[simp] theorem State.refuse_rxHighAux (s : State) (c : Code) : (s.refuse c).rxHighAux = s.rxHighAux := rfl
@[simp] theorem State.refuse_otaRxPower (s : State) (c : Code) : (s.refuse c).otaRxPower = s.otaRxPower := rfl
@[simp] theorem State.refuse_ch (s : State) (c : Code) : (s.refuse c).ch = s.ch := rfl
@[simp] theorem State.refuse_rxch (s : State) (c : Code) : (s.refuse c).rxch = s.rxch := rfl
@[simp] theorem State.refuse_pkt (s : State) (c : Code) : (s.refuse c).pkt = s.pkt := rfl
@[simp] theorem State.refuse_pending (s : State) (c : Code) : (s.refuse c).pending = s.pending := rfl
@[simp] theorem State.refuse_answer (s : State) (c : Code) : (s.refuse c).answer = s.answer := rfl

/-! ## `State.blockReset` -/

@[simp] theorem State.blockReset_result (s : State) : s.blockReset.result = .ok := rfl
@[simp] theorem State.blockReset_firstErr (s : State) : s.blockReset.firstErr = .ok := rfl
@[simp] theorem State.blockReset_err (s : State) : s.blockReset.err = false := rfl
@[simp] theorem State.blockReset_crcOk (s : State) : s.blockReset.crcOk = false := rfl
@[simp] theorem State.blockReset_rxUpdated (s : State) : s.blockReset.rxUpdated = false := rfl
@[simp] theorem State.blockReset_crc0Valid (s : State) : s.blockReset.crc0Valid = false := rfl
@[simp] theorem State.blockReset_crc1Valid (s : State) : s.blockReset.crc1Valid = false := rfl
@[simp] theorem State.blockReset_fhssValid (s : State) : s.blockReset.fhssValid = false := rfl
@[simp] theorem State.blockReset_otaValid (s : State) : s.blockReset.otaValid = false := rfl
@[simp] theorem State.blockReset_txInflight (s : State) : s.blockReset.txInflight = false := rfl
@[simp] theorem State.blockReset_crcBits (s : State) : s.blockReset.crcBits = 0 := rfl
@[simp] theorem State.blockReset_crcPoly (s : State) : s.blockReset.crcPoly = 0 := rfl
@[simp] theorem State.blockReset_crcLen (s : State) : s.blockReset.crcLen = 0 := rfl
@[simp] theorem State.blockReset_crcInitval (s : State) : s.blockReset.crcInitval = 0 := rfl
@[simp] theorem State.blockReset_crcResult (s : State) : s.blockReset.crcResult = 0 := rfl
@[simp] theorem State.blockReset_crc0Cfg (s : State) : s.blockReset.crc0Cfg = ⟨0, 0⟩ := rfl
@[simp] theorem State.blockReset_crc1Cfg (s : State) : s.blockReset.crc1Cfg = ⟨0, 0⟩ := rfl
@[simp] theorem State.blockReset_tab0 (s : State) : s.blockReset.tab0 = Vector.replicate 256 0 := rfl
@[simp] theorem State.blockReset_tab1 (s : State) : s.blockReset.tab1 = Vector.replicate 256 0 := rfl
@[simp] theorem State.blockReset_buf (s : State) : s.blockReset.buf = Vector.replicate 256 0 := rfl
@[simp] theorem State.blockReset_fhssSeed (s : State) : s.blockReset.fhssSeed = 0 := rfl
@[simp] theorem State.blockReset_fhssFreqCount (s : State) : s.blockReset.fhssFreqCount = 0 := rfl
@[simp] theorem State.blockReset_fhssFreqStart (s : State) : s.blockReset.fhssFreqStart = 0 := rfl
@[simp] theorem State.blockReset_fhssFreqStop (s : State) : s.blockReset.fhssFreqStop = 0 := rfl
@[simp] theorem State.blockReset_fhssHopInterval (s : State) : s.blockReset.fhssHopInterval = 0 := rfl
@[simp] theorem State.blockReset_fhssSeqCount (s : State) : s.blockReset.fhssSeqCount = 0 := rfl
@[simp] theorem State.blockReset_fhssActCount (s : State) : s.blockReset.fhssActCount = 0 := rfl
@[simp] theorem State.blockReset_fhssSync (s : State) : s.blockReset.fhssSync = 0 := rfl
@[simp] theorem State.blockReset_fhssPtr (s : State) : s.blockReset.fhssPtr = 0 := rfl
@[simp] theorem State.blockReset_fhssSpread (s : State) : s.blockReset.fhssSpread = 0 := rfl
@[simp] theorem State.blockReset_fhssActStart (s : State) : s.blockReset.fhssActStart = 0 := rfl
@[simp] theorem State.blockReset_seq (s : State) : s.blockReset.seq = Vector.replicate 256 0 := rfl
@[simp] theorem State.blockReset_otaMode (s : State) : s.blockReset.otaMode = .compactIndexed := rfl
@[simp] theorem State.blockReset_otaNonce (s : State) : s.blockReset.otaNonce = 0 := rfl
@[simp] theorem State.blockReset_otaTlmDenom (s : State) : s.blockReset.otaTlmDenom = 0 := rfl
@[simp] theorem State.blockReset_otaCrcInit (s : State) : s.blockReset.otaCrcInit = 0 := rfl
@[simp] theorem State.blockReset_txArmed (s : State) : s.blockReset.txArmed = false := rfl
@[simp] theorem State.blockReset_txTlm (s : State) : s.blockReset.txTlm = false := rfl
@[simp] theorem State.blockReset_otaUplinkPower (s : State) : s.blockReset.otaUplinkPower = 0 := rfl
@[simp] theorem State.blockReset_swIdx (s : State) : s.blockReset.swIdx = 0 := rfl
@[simp] theorem State.blockReset_auxHalf (s : State) : s.blockReset.auxHalf = false := rfl
@[simp] theorem State.blockReset_rxArmed (s : State) : s.blockReset.rxArmed = false := rfl
@[simp] theorem State.blockReset_rxTlm (s : State) : s.blockReset.rxTlm = false := rfl
@[simp] theorem State.blockReset_rxHighAux (s : State) : s.blockReset.rxHighAux = false := rfl
@[simp] theorem State.blockReset_otaRxPower (s : State) : s.blockReset.otaRxPower = 0 := rfl
@[simp] theorem State.blockReset_ch (s : State) : s.blockReset.ch = Vector.replicate 16 0 := rfl
@[simp] theorem State.blockReset_rxch (s : State) : s.blockReset.rxch = Vector.replicate 16 0 := rfl
@[simp] theorem State.blockReset_pkt (s : State) : s.blockReset.pkt = Vector.replicate 13 0 := rfl
@[simp] theorem State.blockReset_pending (s : State) : s.blockReset.pending = s.pending := rfl
@[simp] theorem State.blockReset_answer (s : State) : s.blockReset.answer = s.answer := rfl

/-! ## `State.configured` -/

@[simp] theorem State.configured_result (s : State) (m : Mode) : (s.configured m).result = s.result := rfl
@[simp] theorem State.configured_firstErr (s : State) (m : Mode) : (s.configured m).firstErr = s.firstErr := rfl
@[simp] theorem State.configured_err (s : State) (m : Mode) : (s.configured m).err = s.err := rfl
@[simp] theorem State.configured_crcOk (s : State) (m : Mode) : (s.configured m).crcOk = s.crcOk := rfl
@[simp] theorem State.configured_rxUpdated (s : State) (m : Mode) : (s.configured m).rxUpdated = s.rxUpdated := rfl
@[simp] theorem State.configured_crc0Valid (s : State) (m : Mode) : (s.configured m).crc0Valid = s.crc0Valid := rfl
@[simp] theorem State.configured_crc1Valid (s : State) (m : Mode) : (s.configured m).crc1Valid = true := rfl
@[simp] theorem State.configured_fhssValid (s : State) (m : Mode) : (s.configured m).fhssValid = s.fhssValid := rfl
@[simp] theorem State.configured_otaValid (s : State) (m : Mode) : (s.configured m).otaValid = true := rfl
@[simp] theorem State.configured_txInflight (s : State) (m : Mode) : (s.configured m).txInflight = s.txInflight := rfl
@[simp] theorem State.configured_crcBits (s : State) (m : Mode) : (s.configured m).crcBits = s.crcBits := rfl
@[simp] theorem State.configured_crcPoly (s : State) (m : Mode) : (s.configured m).crcPoly = s.crcPoly := rfl
@[simp] theorem State.configured_crcLen (s : State) (m : Mode) : (s.configured m).crcLen = s.crcLen := rfl
@[simp] theorem State.configured_crcInitval (s : State) (m : Mode) : (s.configured m).crcInitval = s.crcInitval := rfl
@[simp] theorem State.configured_crcResult (s : State) (m : Mode) : (s.configured m).crcResult = s.crcResult := rfl
@[simp] theorem State.configured_crc0Cfg (s : State) (m : Mode) : (s.configured m).crc0Cfg = s.crc0Cfg := rfl
@[simp] theorem State.configured_crc1Cfg (s : State) (m : Mode) : (s.configured m).crc1Cfg = m.bankCfg := rfl
@[simp] theorem State.configured_tab0 (s : State) (m : Mode) : (s.configured m).tab0 = s.tab0 := rfl
@[simp] theorem State.configured_tab1 (s : State) (m : Mode) :
    (s.configured m).tab1 = crcTable m.bankCfg.width.toNat m.bankCfg.poly := rfl
@[simp] theorem State.configured_buf (s : State) (m : Mode) : (s.configured m).buf = s.buf := rfl
@[simp] theorem State.configured_fhssSeed (s : State) (m : Mode) : (s.configured m).fhssSeed = s.fhssSeed := rfl
@[simp] theorem State.configured_fhssFreqCount (s : State) (m : Mode) :
    (s.configured m).fhssFreqCount = s.fhssFreqCount := rfl
@[simp] theorem State.configured_fhssFreqStart (s : State) (m : Mode) :
    (s.configured m).fhssFreqStart = s.fhssFreqStart := rfl
@[simp] theorem State.configured_fhssFreqStop (s : State) (m : Mode) :
    (s.configured m).fhssFreqStop = s.fhssFreqStop := rfl
@[simp] theorem State.configured_fhssHopInterval (s : State) (m : Mode) :
    (s.configured m).fhssHopInterval = s.fhssHopInterval := rfl
@[simp] theorem State.configured_fhssSeqCount (s : State) (m : Mode) :
    (s.configured m).fhssSeqCount = s.fhssSeqCount := rfl
@[simp] theorem State.configured_fhssActCount (s : State) (m : Mode) :
    (s.configured m).fhssActCount = s.fhssActCount := rfl
@[simp] theorem State.configured_fhssSync (s : State) (m : Mode) : (s.configured m).fhssSync = s.fhssSync := rfl
@[simp] theorem State.configured_fhssPtr (s : State) (m : Mode) : (s.configured m).fhssPtr = s.fhssPtr := rfl
@[simp] theorem State.configured_fhssSpread (s : State) (m : Mode) : (s.configured m).fhssSpread = s.fhssSpread := rfl
@[simp] theorem State.configured_fhssActStart (s : State) (m : Mode) :
    (s.configured m).fhssActStart = s.fhssActStart := rfl
@[simp] theorem State.configured_seq (s : State) (m : Mode) : (s.configured m).seq = s.seq := rfl
@[simp] theorem State.configured_otaMode (s : State) (m : Mode) : (s.configured m).otaMode = m := rfl
@[simp] theorem State.configured_otaNonce (s : State) (m : Mode) : (s.configured m).otaNonce = s.otaNonce := rfl
@[simp] theorem State.configured_otaTlmDenom (s : State) (m : Mode) :
    (s.configured m).otaTlmDenom = s.otaTlmDenom := rfl
@[simp] theorem State.configured_otaCrcInit (s : State) (m : Mode) : (s.configured m).otaCrcInit = s.otaCrcInit := rfl
@[simp] theorem State.configured_txArmed (s : State) (m : Mode) : (s.configured m).txArmed = s.txArmed := rfl
@[simp] theorem State.configured_txTlm (s : State) (m : Mode) : (s.configured m).txTlm = s.txTlm := rfl
@[simp] theorem State.configured_otaUplinkPower (s : State) (m : Mode) :
    (s.configured m).otaUplinkPower = s.otaUplinkPower := rfl
@[simp] theorem State.configured_swIdx (s : State) (m : Mode) : (s.configured m).swIdx = 0 := rfl
@[simp] theorem State.configured_auxHalf (s : State) (m : Mode) : (s.configured m).auxHalf = false := rfl
@[simp] theorem State.configured_rxArmed (s : State) (m : Mode) : (s.configured m).rxArmed = s.rxArmed := rfl
@[simp] theorem State.configured_rxTlm (s : State) (m : Mode) : (s.configured m).rxTlm = s.rxTlm := rfl
@[simp] theorem State.configured_rxHighAux (s : State) (m : Mode) : (s.configured m).rxHighAux = s.rxHighAux := rfl
@[simp] theorem State.configured_otaRxPower (s : State) (m : Mode) : (s.configured m).otaRxPower = s.otaRxPower := rfl
@[simp] theorem State.configured_ch (s : State) (m : Mode) : (s.configured m).ch = s.ch := rfl
@[simp] theorem State.configured_rxch (s : State) (m : Mode) : (s.configured m).rxch = s.rxch := rfl
@[simp] theorem State.configured_pkt (s : State) (m : Mode) : (s.configured m).pkt = s.pkt := rfl
@[simp] theorem State.configured_pending (s : State) (m : Mode) : (s.configured m).pending = s.pending := rfl
@[simp] theorem State.configured_answer (s : State) (m : Mode) : (s.configured m).answer = s.answer := rfl

/-! ## `State.withSeal` -/

@[simp] theorem State.withSeal_result (s : State) : s.withSeal.result = s.result := rfl
@[simp] theorem State.withSeal_firstErr (s : State) : s.withSeal.firstErr = s.firstErr := rfl
@[simp] theorem State.withSeal_err (s : State) : s.withSeal.err = s.err := rfl
@[simp] theorem State.withSeal_crcOk (s : State) : s.withSeal.crcOk = s.crcOk := rfl
@[simp] theorem State.withSeal_rxUpdated (s : State) : s.withSeal.rxUpdated = s.rxUpdated := rfl
@[simp] theorem State.withSeal_crc0Valid (s : State) : s.withSeal.crc0Valid = s.crc0Valid := rfl
@[simp] theorem State.withSeal_crc1Valid (s : State) : s.withSeal.crc1Valid = s.crc1Valid := rfl
@[simp] theorem State.withSeal_fhssValid (s : State) : s.withSeal.fhssValid = s.fhssValid := rfl
@[simp] theorem State.withSeal_otaValid (s : State) : s.withSeal.otaValid = s.otaValid := rfl
@[simp] theorem State.withSeal_txInflight (s : State) : s.withSeal.txInflight = s.txInflight := rfl
@[simp] theorem State.withSeal_crcBits (s : State) : s.withSeal.crcBits = s.crcBits := rfl
@[simp] theorem State.withSeal_crcPoly (s : State) : s.withSeal.crcPoly = s.crcPoly := rfl
@[simp] theorem State.withSeal_crcLen (s : State) : s.withSeal.crcLen = s.crcLen := rfl
@[simp] theorem State.withSeal_crcInitval (s : State) : s.withSeal.crcInitval = s.crcInitval := rfl
@[simp] theorem State.withSeal_crcResult (s : State) : s.withSeal.crcResult = s.crcResult := rfl
@[simp] theorem State.withSeal_crc0Cfg (s : State) : s.withSeal.crc0Cfg = s.crc0Cfg := rfl
@[simp] theorem State.withSeal_crc1Cfg (s : State) : s.withSeal.crc1Cfg = s.crc1Cfg := rfl
@[simp] theorem State.withSeal_tab0 (s : State) : s.withSeal.tab0 = s.tab0 := rfl
@[simp] theorem State.withSeal_tab1 (s : State) : s.withSeal.tab1 = s.tab1 := rfl
@[simp] theorem State.withSeal_buf (s : State) : s.withSeal.buf = s.buf := rfl
@[simp] theorem State.withSeal_fhssSeed (s : State) : s.withSeal.fhssSeed = s.fhssSeed := rfl
@[simp] theorem State.withSeal_fhssFreqCount (s : State) : s.withSeal.fhssFreqCount = s.fhssFreqCount := rfl
@[simp] theorem State.withSeal_fhssFreqStart (s : State) : s.withSeal.fhssFreqStart = s.fhssFreqStart := rfl
@[simp] theorem State.withSeal_fhssFreqStop (s : State) : s.withSeal.fhssFreqStop = s.fhssFreqStop := rfl
@[simp] theorem State.withSeal_fhssHopInterval (s : State) : s.withSeal.fhssHopInterval = s.fhssHopInterval := rfl
@[simp] theorem State.withSeal_fhssSeqCount (s : State) : s.withSeal.fhssSeqCount = s.fhssSeqCount := rfl
@[simp] theorem State.withSeal_fhssActCount (s : State) : s.withSeal.fhssActCount = s.fhssActCount := rfl
@[simp] theorem State.withSeal_fhssSync (s : State) : s.withSeal.fhssSync = s.fhssSync := rfl
@[simp] theorem State.withSeal_fhssPtr (s : State) : s.withSeal.fhssPtr = s.fhssPtr := rfl
@[simp] theorem State.withSeal_fhssSpread (s : State) : s.withSeal.fhssSpread = s.fhssSpread := rfl
@[simp] theorem State.withSeal_fhssActStart (s : State) : s.withSeal.fhssActStart = s.fhssActStart := rfl
@[simp] theorem State.withSeal_seq (s : State) : s.withSeal.seq = s.seq := rfl
@[simp] theorem State.withSeal_otaMode (s : State) : s.withSeal.otaMode = s.otaMode := rfl
@[simp] theorem State.withSeal_otaNonce (s : State) : s.withSeal.otaNonce = s.otaNonce := rfl
@[simp] theorem State.withSeal_otaTlmDenom (s : State) : s.withSeal.otaTlmDenom = s.otaTlmDenom := rfl
@[simp] theorem State.withSeal_otaCrcInit (s : State) : s.withSeal.otaCrcInit = s.otaCrcInit := rfl
@[simp] theorem State.withSeal_txArmed (s : State) : s.withSeal.txArmed = s.txArmed := rfl
@[simp] theorem State.withSeal_txTlm (s : State) : s.withSeal.txTlm = s.txTlm := rfl
@[simp] theorem State.withSeal_otaUplinkPower (s : State) : s.withSeal.otaUplinkPower = s.otaUplinkPower := rfl
@[simp] theorem State.withSeal_swIdx (s : State) : s.withSeal.swIdx = s.swIdx := rfl
@[simp] theorem State.withSeal_auxHalf (s : State) : s.withSeal.auxHalf = s.auxHalf := rfl
@[simp] theorem State.withSeal_rxArmed (s : State) : s.withSeal.rxArmed = s.rxArmed := rfl
@[simp] theorem State.withSeal_rxTlm (s : State) : s.withSeal.rxTlm = s.rxTlm := rfl
@[simp] theorem State.withSeal_rxHighAux (s : State) : s.withSeal.rxHighAux = s.rxHighAux := rfl
@[simp] theorem State.withSeal_otaRxPower (s : State) : s.withSeal.otaRxPower = s.otaRxPower := rfl
@[simp] theorem State.withSeal_ch (s : State) : s.withSeal.ch = s.ch := rfl
@[simp] theorem State.withSeal_rxch (s : State) : s.withSeal.rxch = s.rxch := rfl
@[simp] theorem State.withSeal_pkt (s : State) : s.withSeal.pkt = s.sealedPkt := rfl
@[simp] theorem State.withSeal_pending (s : State) : s.withSeal.pending = s.pending := rfl
@[simp] theorem State.withSeal_answer (s : State) : s.withSeal.answer = s.answer := rfl

end Sys2Proof.Machine
end

