-- ==== Sys2Proof/Laws/Bus.lean ====
section
/-! SUPPORT. The address map and one access: where each offset leads, which accesses have a meaning, and everything a
step can do. -/

namespace Sys2Proof.Machine

/-! ## Offsets -/

theorem Reg.offset_aligned (r : Reg) : r.offset % 4 = 0 := by cases r <;> decide

theorem Reg.offset_lt (r : Reg) : r.offset < 0x100 := by cases r <;> decide

theorem Loc.offset_aligned (l : Loc) : l.offset % 4 = 0 := by
  cases l with
  | reg r => exact r.offset_aligned
  | tab b i => cases b <;> simp [Loc.offset, tabBase]
  | _ => simp [Loc.offset]

theorem regAt_offset (r : Reg) : regAt r.offset = some r := by cases r <;> decide

theorem offset_of_regAt {o : Nat} {r : Reg} (h : regAt o = some r) : r.offset = o := by
  simpa using List.find?_some h

theorem regAt_eq_none_of_le {o : Nat} (h : 0x100 ≤ o) : regAt o = none := by
  cases hr : regAt o with
  | none => rfl
  | some r => have := offset_of_regAt hr; have := r.offset_lt; omega

/-- An offset names element `i` of an array exactly when it is the base plus four times `i`. -/
theorem elementAt_eq_some_iff {base n o : Nat} (hb : base % 4 = 0) (i : Fin n) :
    elementAt base n o = some i ↔ o = base + 4 * i.val := by
  unfold elementAt
  split
  · simp only [Option.some.injEq, Fin.ext_iff]
    omega
  · rename_i h
    simp only [reduceCtorEq, false_iff]
    have := i.isLt
    omega

/-- An offset outside an array window names no element of it. -/
theorem elementAt_eq_none_of {base n o : Nat} (h : o < base ∨ base + 4 * n ≤ o) : elementAt base n o = none := by
  unfold elementAt
  rw [dif_neg]
  omega

/-! ## Accesses -/

theorem target_of_locate {o : Nat} {l : Loc} (ho : o % 4 = 0) (hl : locate o = some l) : target o 4 = .ok l := by
  simp [target, ho, hl]

/-- What `target` can answer: a location for an aligned 32-bit access to a defined offset, a refusal otherwise. -/
theorem target_cases (o b : Nat) :
    (∃ r, target o b = .error r ∧ ¬(b = 4 ∧ o % 4 = 0 ∧ (locate o).isSome = true)) ∨
      ∃ l, target o b = .ok l ∧ b = 4 ∧ o % 4 = 0 ∧ locate o = some l := by
  unfold target
  split
  · exact .inl ⟨_, rfl, by omega⟩
  · split
    · exact .inl ⟨_, rfl, by omega⟩
    · cases h : locate o with
      | none => exact .inl ⟨_, rfl, by simp⟩
      | some l => exact .inr ⟨l, rfl, by omega, by omega, rfl⟩

theorem target_cmd : target 0x000 4 = .ok (.reg .cmd) := by decide

/-- Every command on every state has a next state (rules R12, R280). -/
theorem exec_answers_next (i : Instr) (s : State) : ∃ t, exec i s = .next t := by
  cases i <;> exact ⟨_, rfl⟩

/-- Every write to `CMD` has a next state. -/
theorem runCommand_answers_next (w : Word) (s : State) : ∃ t, runCommand w s = .next t := by
  unfold runCommand
  split
  · exact exec_answers_next _ _
  · exact ⟨_, rfl⟩

theorem runCommand_of_decode {w : Word} {i : Instr} (h : decode w = .ok i) (s : State) : runCommand w s = exec i s := by
  simp [runCommand, h]

theorem runCommand_of_illegal {w : Word} {e : Illegal} (h : decode w = .error e) (s : State) :
    runCommand w s = .next (s.refuse .eOpcode) := by
  simp [runCommand, h]

theorem access_read {o b : Nat} {l : Loc} (h : target o b = .ok l) (s : State) :
    access (.read o b) s = .next { s with answer := some (s.readLoc l) } := by
  simp [access, h]

theorem access_commandWrite (w : Word) (s : State) : access (commandWrite w) s = runCommand w s := by
  simp [access, commandWrite, target_cmd]

theorem access_write {o b : Nat} {l : Loc} (h : target o b = .ok l) (hc : l ≠ .reg .cmd) (v : Word) (s : State) :
    access (.write o b v) s = .next (s.writeLoc v l) := by
  cases l with
  | reg r => cases r <;> first | exact absurd rfl hc | simp [access, h]
  | _ => simp [access, h]

theorem step_of_pending {s : State} {a : Access} {rest : List Access} (h : s.pending = a :: rest) :
    step s = access a { s with pending := rest } := by
  simp [step, takeNext, h]

/-- Everything a step that goes on can do: idle, a read, a command, a store, or the reset event. -/
theorem step_cases {s t : State} (h : step s = .next t) :
    (s.pending = [] ∧ t = s) ∨
      ∃ a rest, s.pending = a :: rest ∧
        ((∃ l, t = { s with pending := rest, answer := some (s.readLoc l) }) ∨
          (∃ w, a = .write 0x000 4 w ∧ runCommand w { s with pending := rest } = .next t) ∨
          (∃ l v, l ≠ .reg .cmd ∧ t = ({ s with pending := rest } : State).writeLoc v l) ∨
          a = .reset ∧ t = ({ s with pending := rest } : State).blockReset) := by
  unfold step takeNext at h
  cases hp : s.pending with
  | nil => simp only [hp] at h; injection h with h; exact .inl ⟨rfl, h.symm⟩
  | cons a rest =>
    simp only [hp] at h
    refine .inr ⟨a, rest, rfl, ?_⟩
    cases a with
    | read o b =>
      rcases target_cases o b with ⟨r, hr, -⟩ | ⟨l, hl, -⟩
      · simp [access, hr] at h
      · rw [access_read hl] at h
        injection h with h
        refine .inl ⟨l, h.symm.trans ?_⟩
        cases l with
        | reg r => cases r <;> rfl
        | _ => rfl
    | write o b v =>
      rcases target_cases o b with ⟨r, hr, -⟩ | ⟨l, hl, hb, ho, hloc⟩
      · simp [access, hr] at h
      · by_cases hc : l = .reg .cmd
        · subst hc
          have h0 : o = 0 := by
            unfold locate at hloc
            simp only [Option.orElse_eq_orElse, Option.orElse_eq_or, Option.or_eq_some_iff,
              Option.map_eq_some_iff, reduceCtorEq, and_false, exists_false, or_false] at hloc
            obtain ⟨r, hr, he⟩ := hloc
            injection he with he
            subst he
            exact (offset_of_regAt hr).symm
          subst h0 hb
          exact .inr (.inl ⟨v, rfl, by simpa [access, hl] using h⟩)
        · rw [access_write hl hc] at h
          injection h with h
          exact .inr (.inr (.inl ⟨l, v, hc, h.symm⟩))
    | reset =>
      simp only [access] at h
      injection h with h
      exact .inr (.inr (.inr ⟨rfl, h.symm⟩))

end Sys2Proof.Machine
end

