-- ==== Sys2Proof/Laws/Ops.lean ====
section
/-! SUPPORT. What each shared operation can do, said once: the outcome of a command, the CRC algorithm, the schedule
generator, the packet CRC and its field, and the operand forms. -/

namespace Sys2Proof.Machine

/-! ## Outcomes -/

theorem State.accept_eq (s : State) : s.accept = { s with result := .ok } := rfl

theorem State.refuse_eq (s : State) (c : Code) :
    s.refuse c = { s with result := c, err := true, firstErr := if s.firstErr = .ok then c else s.firstErr } := rfl

theorem State.blockReset_eq (s : State) :
    s.blockReset = { State.reset with pending := s.pending, answer := s.answer } := rfl

/-- `RESULT` is already 0 after a reset. -/
theorem State.accept_blockReset (s : State) : s.blockReset.accept = s.blockReset := rfl

theorem Code.num_injective {a b : Code} (h : a.num = b.num) : a = b := by cases a <;> cases b <;> first | rfl | cases h

theorem Mode.code_injective {a b : Mode} (h : a.code = b.code) : a = b := by
  cases a <;> cases b <;> first | rfl | cases h

theorem modeOfOperand_eq_some_iff {n : Nat} {m : Mode} : modeOfOperand n = some m ↔ n = m.code.toNat := by
  rcases n with _ | _ | _ | _ | n <;> cases m <;> simp [modeOfOperand, Mode.code]

theorem modeOfOperand_eq_none_iff {n : Nat} : modeOfOperand n = none ↔ 3 < n := by
  rcases n with _ | _ | _ | _ | n <;> simp [modeOfOperand]

/-! ## Tests of the commands -/

theorem crcWidthLegal_iff (w : Nat) : crcWidthLegal w = true ↔ w = 8 ∨ w = 14 ∨ w = 16 := by
  simp [crcWidthLegal, Config.crcWidths]

theorem State.hopIntervalLegal_iff (s : State) :
    s.hopIntervalLegal = true ↔ 1 ≤ s.fhssHopInterval.toNat ∧ s.fhssHopInterval.toNat ≤ 63 := by
  unfold State.hopIntervalLegal Config.hopIntMax
  exact decide_eq_true_iff

theorem State.pktIsRc_iff (s : State) : s.pktIsRc = true ↔ s.pkt[0].extractLsb' 0 2 = 0b00#2 := by
  simp [State.pktIsRc, Config.typeRc]

theorem State.needsHopSync_iff (s : State) :
    s.needsHopSync = true ↔ s.otaMode = .compactWide ∧ s.pkt[0].extractLsb' 0 2 = 0b00#2 := by
  rw [← s.pktIsRc_iff]
  simp [State.needsHopSync]

theorem State.hopRefused_iff (s : State) : s.HopRefused ↔ s.needsHopSync = true ∧ (!s.hopIntervalLegal) = true := by
  rw [State.HopRefused, ← and_assoc, ← s.needsHopSync_iff, ← s.hopIntervalLegal_iff]
  simp

theorem State.fhssDomainLegal_iff (s : State) :
    s.fhssDomainLegal = true ↔ 2 ≤ s.fhssFreqCount.toNat ∧ s.fhssFreqCount.toNat ≤ 256 ∧
      s.fhssFreqStart.toNat ≤ s.fhssFreqStop.toNat ∧
      s.fhssFreqStop.toNat - s.fhssFreqStart.toNat ≤ 2 ^ 24 - 1 := by
  simp [State.fhssDomainLegal, Config.seqMax, Config.fspanMax]

theorem State.crcMatches_iff (s : State) : s.crcMatches = true ↔ s.pktCrc = s.storedCrc := by
  simp [State.crcMatches]

/-! ## CRC -/

theorem truncW_toNat (w : Nat) (v : Hword) : (truncW w v).toNat = v.toNat % 2 ^ w := by
  have h : v.toNat % 2 ^ w < 2 ^ 16 := Nat.lt_of_le_of_lt (Nat.mod_le _ _) v.isLt
  simp only [truncW, BitVec.toNat_setWidth]
  exact Nat.mod_eq_of_lt h

theorem truncW_getLsbD (w i : Nat) (v : Hword) : (truncW w v).getLsbD i = (decide (i < w) && v.getLsbD i) := by
  by_cases h : i < 16
  · simp [truncW, BitVec.getLsbD_setWidth, h]
  · simp [truncW, BitVec.getLsbD_setWidth, h, BitVec.getLsbD_of_ge v i (by omega)]

theorem truncW_xor (w : Nat) (a b : Hword) : truncW w (a ^^^ b) = truncW w a ^^^ truncW w b := by
  apply BitVec.eq_of_getLsbD_eq
  intro i _
  simp only [truncW_getLsbD, BitVec.getLsbD_xor]
  cases decide (i < w) <;> simp

theorem truncW_of_lt {w : Nat} {v : Hword} (h : v.toNat < 2 ^ w) : truncW w v = v := by
  apply BitVec.eq_of_toNat_eq
  rw [truncW_toNat, Nat.mod_eq_of_lt h]

theorem xor_toNat_lt {w : Nat} {a b : Hword} (ha : a.toNat < 2 ^ w) (hb : b.toNat < 2 ^ w) :
    (a ^^^ b).toNat < 2 ^ w := by
  rw [BitVec.toNat_xor]
  exact Nat.xor_lt_two_pow ha hb

/-- A division step keeps the register below `2^W`. -/
theorem divStep_toNat_lt {w : Nat} {p : Hword} (hp : p.toNat < 2 ^ w) (r : Hword) : (divStep w p r).toNat < 2 ^ w := by
  have h : (truncW w (r <<< 1)).toNat < 2 ^ w := by
    rw [truncW_toNat]
    exact Nat.mod_lt _ (Nat.two_pow_pos w)
  unfold divStep
  split
  · exact xor_toNat_lt h hp
  · exact h

/-- A division step is linear in the register. -/
theorem divStep_xor (w : Nat) (p a b : Hword) : divStep w p (a ^^^ b) = divStep w p a ^^^ divStep w p b := by
  unfold divStep
  simp only [BitVec.getLsbD_xor, BitVec.shiftLeft_xor_distrib, truncW_xor]
  generalize truncW w (a <<< 1) = x
  generalize truncW w (b <<< 1) = y
  cases a.getLsbD (w - 1) <;> cases b.getLsbD (w - 1) <;> simp only [Bool.xor_false, Bool.xor_true, Bool.not_false,
    Bool.not_true, if_true, if_false, Bool.false_eq_true] <;> apply BitVec.eq_of_getLsbD_eq <;> intro i _ <;>
    simp only [BitVec.getLsbD_xor] <;> cases x.getLsbD i <;> cases y.getLsbD i <;> cases p.getLsbD i <;> rfl

theorem crcTable_getElem (w : Nat) (p : Hword) (i : Nat) (h : i < 256) :
    (crcTable w p)[i] = tabEntry w p (BitVec.ofNat 8 i) := by
  unfold crcTable
  rw [Vector.getElem_ofFn]

theorem foldStep_crcTable (w : Nat) (p c : Hword) (d : Byte) :
    foldStep w (crcTable w p) c d = truncW w (c <<< 8) ^^^ tabEntry w p (foldIndex w c d) := by
  simp [foldStep, crcTable]

@[simp] theorem crcFold_nil (w : Nat) (t : Vector Hword 256) (init : Hword) : crcFold w t init [] = truncW w init := rfl

theorem crcFold_cons (w : Nat) (t : Vector Hword 256) (init : Hword) (d : Byte) (ds : List Byte) :
    crcFold w t init (d :: ds) = ds.foldl (foldStep w t) (foldStep w t (truncW w init) d) := rfl

theorem crcFold_append (w : Nat) (t : Vector Hword 256) (init : Hword) (xs ys : List Byte) :
    crcFold w t init (xs ++ ys) = ys.foldl (foldStep w t) (crcFold w t init xs) := by
  simp [crcFold, List.foldl_append]

/-! ## The hop schedule -/

theorem seqCount_le (n : Nat) : seqCount n ≤ 256 := Nat.div_mul_le_self 256 n

theorem le_seqCount {n : Nat} (h0 : 0 < n) (h : n ≤ 256) : n ≤ seqCount n := by
  unfold seqCount Config.seqMax
  exact Nat.le_mul_of_pos_left n (Nat.div_pos h h0)

theorem rngStep_toNat (r : BitVec 31) : (rngStep r).toNat = (214013 * r.toNat + 2531011) % 2 ^ 31 := by
  simp [rngStep, Config.lcgA, Config.lcgC, Config.lcgM]

theorem seqFill_getElem (n i : Nat) (h : i < 256) :
    (seqFill n)[i] =
      if i < seqCount n then
        if i % n = 0 then BitVec.ofNat 8 (syncChan n)
        else if i % n = syncChan n then 0 else BitVec.ofNat 8 (i % n)
      else 0 := by
  simp [seqFill]

theorem swapStep_of_block_start {n i : Nat} (h : i % n = 0) (st : Vector Byte 256 × BitVec 31) :
    swapStep n st i = st := by
  simp [swapStep, h]

/-- Away from the start of a block, a swap step exchanges its position with another one of the same block that is not
the block's start either, and the generator moves by one. -/
theorem swapStep_of_inside {n i : Nat} (hn : 2 ≤ n) (h : i % n ≠ 0) (st : Vector Byte 256 × BitVec 31) :
    ∃ r, 1 ≤ r ∧ r < n ∧
      swapStep n st i = (st.1.swapIfInBounds i (i / n * n + r), rngStep st.2) := by
  refine ⟨rngOut (rngStep st.2) % (n - 1) + 1, Nat.le_add_left .., ?_, ?_⟩
  · have := Nat.mod_lt (rngOut (rngStep st.2)) (show 0 < n - 1 by omega)
    omega
  · simp [swapStep, h]

theorem freqSpread_toNat {start stop : BitVec 32} (n : Nat) (h : stop.toNat - start.toNat ≤ 2 ^ 24 - 1) :
    (freqSpread start stop n).toNat = (stop.toNat - start.toNat) * 256 / (n - 1) := by
  simp only [freqSpread, Config.spreadScale, BitVec.toNat_ofNat]
  apply Nat.mod_eq_of_lt
  have := Nat.div_le_self ((stop.toNat - start.toNat) * 256) (n - 1)
  omega

/-! ## Values computed at use -/

theorem State.hopSync_of_zero {s : State} (h : s.fhssHopInterval = 0) : s.hopSync = 0 := by simp [State.hopSync, h]

/-- The hop-sync value keeps the seven bits of its register. -/
theorem State.hopSync_toNat {s : State} (h : s.fhssHopInterval ≠ 0) :
    s.hopSync.toNat = (s.otaNonce.toNat % s.fhssHopInterval.toNat + 1) % 2 ^ 7 := by
  simp only [State.hopSync, h, if_false, BitVec.toNat_ofNat]

/-- For a hop interval that fits the register the hop-sync value is that of the formula, whole. -/
theorem State.hopSync_toNat_of_lt {s : State} (h : s.fhssHopInterval ≠ 0) (hi : s.fhssHopInterval.toNat < 2 ^ 7) :
    s.hopSync.toNat = s.otaNonce.toNat % s.fhssHopInterval.toNat + 1 := by
  have h0 : 0 < s.fhssHopInterval.toNat :=
    Nat.pos_of_ne_zero fun h1 => h (BitVec.eq_of_toNat_eq (by simpa using h1))
  have h1 := Nat.mod_lt s.otaNonce.toNat h0
  rw [s.hopSync_toNat h, Nat.mod_eq_of_lt (by omega)]

/-- For a legal hop interval the substituted header bits are the hop-sync value, whole (rule R226). -/
theorem State.crcSub_toNat_of_legal {s : State} (hn : s.needsHopSync = true) (hl : s.hopIntervalLegal = true) :
    s.crcSub.toNat = s.otaNonce.toNat % s.fhssHopInterval.toNat + 1 := by
  have hl : 1 ≤ s.fhssHopInterval.toNat ∧ s.fhssHopInterval.toNat ≤ 63 := of_decide_eq_true hl
  have h0 : s.fhssHopInterval ≠ 0 := fun h => absurd hl.1 (by simp [h])
  have h1 := Nat.mod_lt s.otaNonce.toNat (show 0 < s.fhssHopInterval.toNat by omega)
  rw [State.crcSub, if_pos hn, BitVec.toNat_setWidth, s.hopSync_toNat_of_lt h0 (by omega), Nat.mod_eq_of_lt (by omega)]

theorem wideIndex_toNat (n : BitVec 8) : (wideIndex n).toNat = (n.toNat % 8 + n.toNat / 8 % 2) % 8 := by
  simp [wideIndex]

theorem toN_lt {n : Nat} (hn : 0 < n) (x : Chan) : toN x n < n := by
  unfold toN Config.swLo Config.swHi
  split
  · exact hn
  · split
    · omega
    · rw [Nat.div_lt_iff_lt_mul (by norm_num)]
      have h1 : x.toNat - 191 < 1602 := by omega
      rw [Nat.mul_comm n]
      exact Nat.mul_lt_mul_of_pos_right h1 hn

theorem switchChan_val (i : BitVec 3) : (switchChan i).val = 5 + i.toNat := rfl

/-! ## Packing -/

theorem packedCode_toNat (a : BitVec 40) (k : Nat) : (packedCode a k).toNat = a.toNat / 2 ^ (10 * k) % 2 ^ 10 := by
  simp [packedCode, Nat.shiftRight_eq_div_pow]

theorem packedByte_toNat (a : BitVec 40) (j : Nat) : (packedByte a j).toNat = a.toNat / 2 ^ (8 * j) % 2 ^ 8 := by
  simp [packedByte, Nat.shiftRight_eq_div_pow]

/-- Reading back the five bytes of a packed number gives the number. -/
theorem regionNumber_packedByte (a : BitVec 40) :
    regionNumber (packedByte a 0) (packedByte a 1) (packedByte a 2) (packedByte a 3) (packedByte a 4) = a := by
  apply BitVec.eq_of_getLsbD_eq
  intro i hi
  simp only [regionNumber, packedByte, BitVec.getLsbD_append, BitVec.getLsbD_extractLsb']
  have hi : i < 8 ∨ (8 ≤ i ∧ i < 16) ∨ (16 ≤ i ∧ i < 24) ∨ (24 ≤ i ∧ i < 32) ∨ 32 ≤ i ∧ i < 40 := by omega
  rcases hi with h | h | h | h | h
  · simp [h]
  · simp [show ¬i < 8 by omega, show i - 8 < 8 by omega, show 8 + (i - 8) = i by omega]
  · simp [show ¬i < 8 by omega, show ¬i - 8 < 8 by omega, show i - 8 - 8 < 8 by omega,
      show 16 + (i - 8 - 8) = i by omega]
  · simp [show ¬i < 8 by omega, show ¬i - 8 < 8 by omega, show ¬i - 8 - 8 < 8 by omega,
      show i - 8 - 8 - 8 < 8 by omega, show 24 + (i - 8 - 8 - 8) = i by omega]
  · simp [show ¬i < 8 by omega, show ¬i - 8 < 8 by omega, show ¬i - 8 - 8 < 8 by omega,
      show ¬i - 8 - 8 - 8 < 8 by omega, show i - 8 - 8 - 8 - 8 < 8 by omega,
      show 32 + (i - 8 - 8 - 8 - 8) = i by omega]

/-- Inside a group the receive channels take the expanded codes, outside they keep their values. -/
theorem unpackGroup_getElem (dec : Code10 → Chan) (rx : Vector Chan 16) (base : GroupBase) (a : BitVec 40) (i : Nat)
    (h : i < 16) :
    (unpackGroup dec rx base a)[i] =
      if base.val ≤ i ∧ i < base.val + 4 then dec (packedCode a (i - base.val)) else rx[i] := by
  unfold unpackGroup
  have hb := base.isLt
  simp only [Vector.getElem_set]
  by_cases h0 : base.val ≤ i ∧ i < base.val + 4
  · simp only [h0, and_self, if_true]
    obtain ⟨k, hk⟩ := Nat.exists_eq_add_of_le h0.1
    subst hk
    have : k < 4 := by omega
    interval_cases k <;> simp
  · simp only [h0, if_false]
    have h1 : base.val ≠ i := by omega
    have h2 : base.val + 1 ≠ i := by omega
    have h3 : base.val + 2 ≠ i := by omega
    have h4 : base.val + 3 ≠ i := by omega
    simp [h1, h2, h3, h4]

/-! ## The CRC field of a packet -/

theorem State.storedCrc_of_compact {s : State} (h : s.otaMode.isCompact = true) :
    s.storedCrc = (s.pkt[0].extractLsb' 2 6 ++ s.pkt[7]).setWidth 16 := by simp [State.storedCrc, h]

theorem State.storedCrc_of_extended {s : State} (h : s.otaMode.isCompact = false) :
    s.storedCrc = s.pkt[12] ++ s.pkt[11] := by simp [State.storedCrc, h]

theorem State.sealedPkt_of_compact {s : State} (h : s.otaMode.isCompact = true) :
    s.sealedPkt = (s.pkt.set 0 (s.pktCrc.extractLsb' 8 6 ++ s.pkt[0].extractLsb' 0 2)).set 7
      (s.pktCrc.extractLsb' 0 8) := by simp [State.sealedPkt, h]

theorem State.sealedPkt_of_extended {s : State} (h : s.otaMode.isCompact = false) :
    s.sealedPkt = (s.pkt.set 11 (s.pktCrc.extractLsb' 0 8)).set 12 (s.pktCrc.extractLsb' 8 8) := by
  simp [State.sealedPkt, h]

end Sys2Proof.Machine
end

