-- ==== Sys2Proof/Laws/PerInstr.lean ====
section
/-! SUPPORT. Facts about every command as syntax, one lemma per constructor of `Instr`. -/

namespace Sys2Proof.Laws

/-- The fixed bits of the command's row of the opcode table: its `match` and `mask` (rule R106). -/
def rowOf : Instr → Word × Word
  | .sysNop => (0x00000000#32, 0xFFFFFFFF#32)
  | .sysReset => (0x00000001#32, 0xFFFFFFFF#32)
  | .crcInit => (0x00000010#32, 0xFFFFFFFF#32)
  | .crcCalc _ => (0x00000011#32, 0xFFFFFEFF#32)
  | .fhssBuild => (0x00000020#32, 0xFFFFFFFF#32)
  | .fhssHop => (0x00000021#32, 0xFFFFFFFF#32)
  | .otaConfig _ => (0x00000030#32, 0xFFFFF8FF#32)
  | .otaPack => (0x00000031#32, 0xFFFFFFFF#32)
  | .otaSeal => (0x00000032#32, 0xFFFFFFFF#32)
  | .otaValidate => (0x00000033#32, 0xFFFFFFFF#32)
  | .otaUnpack => (0x00000034#32, 0xFFFFFFFF#32)

/-- The word of a well-formed command lies in the command's row: under the row's mask it is the row's match. -/
def EncodedInRow.Statement (i : Instr) : Prop :=
  i.wellFormed = true → encode i &&& (rowOf i).2 = (rowOf i).1

theorem EncodedInRow.sysNop : EncodedInRow.Statement .sysNop := fun _ => by decide

theorem EncodedInRow.sysReset : EncodedInRow.Statement .sysReset := fun _ => by decide

theorem EncodedInRow.crcInit : EncodedInRow.Statement .crcInit := fun _ => by decide

theorem EncodedInRow.crcCalc (bank : Bank) : EncodedInRow.Statement (.crcCalc bank) := fun _ => by
  cases bank <;> decide

theorem EncodedInRow.fhssBuild : EncodedInRow.Statement .fhssBuild := fun _ => by decide

theorem EncodedInRow.fhssHop : EncodedInRow.Statement .fhssHop := fun _ => by decide

theorem EncodedInRow.otaConfig (mode : Nat) : EncodedInRow.Statement (.otaConfig mode) := fun h => by
  have hm : mode < 8 := by simpa [Instr.wellFormed] using h
  interval_cases mode <;> decide

theorem EncodedInRow.otaPack : EncodedInRow.Statement .otaPack := fun _ => by decide

theorem EncodedInRow.otaSeal : EncodedInRow.Statement .otaSeal := fun _ => by decide

theorem EncodedInRow.otaValidate : EncodedInRow.Statement .otaValidate := fun _ => by decide

theorem EncodedInRow.otaUnpack : EncodedInRow.Statement .otaUnpack := fun _ => by decide

end Sys2Proof.Laws
end

