-- ==== Sys2Proof/Tests/Slice0.lean ====
section
/-! SUPPORT. Tests: well-formedness, decoding of words written out from the encoding, at most two small runs of one
command each with expected values from the spec, and for every statement with hypotheses a witness that meets them. -/

namespace Sys2Proof.Tests

open Sys2Proof Sys2Proof.Machine

/-! ## Helpers -/

/-- The state after an outcome that goes on; the reset state otherwise. -/
def after (o : Host.Outcome State Fault Refusal) : State :=
  match o with
  | .next t => t
  | .fault _ => State.reset
  | .refused _ => State.reset

/-- The step refuses to give the state's oldest access a meaning. -/
def refusedBy (s : State) (r : Refusal) : Bool :=
  match step s with
  | .next _ => false
  | .fault _ => false
  | .refused q => q == r

/-- The step is refused. -/
def isRefused (s : State) : Bool :=
  match step s with
  | .next _ => false
  | .fault _ => false
  | .refused _ => true

/-- The reset block with the given accesses issued. -/
def issued (l : List Access) : State := { State.reset with pending := l }

/-- A command word by its fields of rule R101: `RSV`, `ARG`, `OP`. -/
def fields (rsv : BitVec 21) (arg : BitVec 3) (op : BitVec 8) : Word := rsv ++ arg ++ op

/-- The reset block after an accepted `OTA.CONFIG` of the mode. -/
def inMode (m : Mode) : State := State.reset.configured m

/-! ## Well-formedness -/

theorem test_wellFormed_refuses_mode_8 : (Instr.otaConfig 8).wellFormed = false := by decide

theorem test_wellFormed_admits_mode_7 : (Instr.otaConfig 7).wellFormed = true := by decide

/-! ## Decoding, from the fields of rules R101 to R106 -/

theorem test_decode_sysNop : decode (fields 0 0b000 0x00) = .ok .sysNop := by decide

theorem test_decode_sysReset : decode (fields 0 0b000 0x01) = .ok .sysReset := by decide

theorem test_decode_crcInit : decode (fields 0 0b000 0x10) = .ok .crcInit := by decide

theorem test_decode_crcCalc_0 : decode (fields 0 0b000 0x11) = .ok (.crcCalc .bank0) := by decide

theorem test_decode_crcCalc_1 : decode (fields 0 0b001 0x11) = .ok (.crcCalc .bank1) := by decide

theorem test_decode_fhssBuild : decode (fields 0 0b000 0x20) = .ok .fhssBuild := by decide

theorem test_decode_fhssHop : decode (fields 0 0b000 0x21) = .ok .fhssHop := by decide

theorem test_decode_otaConfig_1 : decode (fields 0 0b001 0x30) = .ok (.otaConfig 1) := by decide

theorem test_decode_otaConfig_6 : decode (fields 0 0b110 0x30) = .ok (.otaConfig 6) := by decide

theorem test_decode_otaPack : decode (fields 0 0b000 0x31) = .ok .otaPack := by decide

theorem test_decode_otaSeal : decode (fields 0 0b000 0x32) = .ok .otaSeal := by decide

theorem test_decode_otaValidate : decode (fields 0 0b000 0x33) = .ok .otaValidate := by decide

theorem test_decode_otaUnpack : decode (fields 0 0b000 0x34) = .ok .otaUnpack := by decide

/-- One word of every kind of illegal encoding that rule R107 lists, and the neighbours that are legal. -/
theorem test_illegal_words :
    decode (fields 0 0b000 0x02) = .error .unassignedOpcode ∧ decode (fields 0 0b000 0x35) = .error .unassignedOpcode ∧
      decode (fields 1 0b000 0x00) = .error .reservedBits ∧ decode (fields 0x100000 0b000 0x30) = .error .reservedBits ∧
      decode (fields 0 0b001 0x10) = .error .nonzeroArgument ∧ decode (fields 0 0b100 0x34) = .error .nonzeroArgument ∧
      decode (fields 0 0b010 0x11) = .error .nonzeroArgument ∧ decode (fields 0 0b100 0x11) = .error .nonzeroArgument ∧
      decode (fields 0 0b111 0x30) = .ok (.otaConfig 7) := by decide

/-- The host's entry to the decoder, on rows of the opcode table. -/
theorem test_decodeTableWord :
    decodeTableWord 32 0x00000111 = some (.crcCalc .bank1) ∧ decodeTableWord 32 0x00000330 = some (.otaConfig 3) ∧
      decodeTableWord 32 0x000000FF = none := by decide

/-- A command word placed for the next step runs as the first command after reset. -/
theorem test_withFetchWord : step (State.reset.withFetchWord 32 0x21) = exec .fhssHop State.reset := by
  rw [step_of_pending (s := State.reset.withFetchWord 32 0x21) (a := commandWrite 0x21#32) (rest := []) rfl,
    access_commandWrite, runCommand_of_decode (i := .fhssHop) (by decide)]
  rfl

/-! ## Operand forms, values of rules R120, R205, R207, R214, R223, R261, R263, R266 -/

theorem test_pack4x10 :
    pack4x10 1 2 3 4 = regionNumber 0x01 0x08 0x30 0x00 0x01 ∧
      pack4x10 0x155 0x2AA 0x0F0 0x30F = regionNumber 0x55 0xA9 0x0A 0xCF 0xC3 := by decide

theorem test_channel_codes :
    enc10Limit 171 = 0 ∧ enc10Limit 173 = 1 ∧ enc10Limit 992 = 512 ∧ enc10Limit 1810 = 1022 ∧ enc10Limit 2047 = 1023 ∧
      dec10Limit 0 = 172 ∧ dec10Limit 512 = 992 ∧ dec10Limit 1022 = 1809 ∧ dec10Limit 1023 = 1811 ∧
      enc10Trunc 2047 = 1023 ∧ dec10Trunc 1023 = 2046 := by decide

theorem test_switch_codes :
    toN 191 8 = 0 ∧ toN 391 8 = 0 ∧ toN 392 8 = 1 ∧ toN 1593 8 = 7 ∧ toN 1591 16 = 13 ∧ toN 1791 128 = 127 ∧
      toN 2047 64 = 63 ∧ fromN 4 7 = 1105 ∧ fromN 15 15 = 1792 ∧ fromN 3 63 = 267 ∧ fromN 5 127 = 254 := by decide

theorem test_wideIndex :
    (List.range 17).map (fun n => (wideIndex (BitVec.ofNat 8 n)).toNat) =
      [0, 1, 2, 3, 4, 5, 6, 7, 1, 2, 3, 4, 5, 6, 7, 0, 0] := by decide

/-! ## The SYS group (rules R141, R142) -/

theorem test_nop_example :
    let t := after (exec .sysNop { State.reset with result := .eCrcLen, err := true, firstErr := .eCrcLen })
    t.result = .ok ∧ t.err = true ∧ t.firstErr = .eCrcLen := by decide

theorem test_reset_clears_in_flight :
    let t := after (exec .sysReset { State.reset with txInflight := true, err := true, otaNonce := 7 })
    t.txInflight = false ∧ t.err = false ∧ t.otaNonce = 0 := by decide

/-! ## The CRC unit -/

/-- Rule R155: width 12 with a too large polynomial gives the width's code. -/
theorem test_crcInit_width_first :
    let t := after (exec .crcInit { State.reset with crcBits := 12, crcPoly := 0xFFFF })
    t.result = .eCrcWidth ∧ t.firstErr = .eCrcWidth ∧ t.crc0Valid = false := by decide

/-- Rule R158, `W = 8`, `P = 0x07`. -/
theorem test_crcInit_table :
    let t := after (exec .crcInit { State.reset with crcBits := 8, crcPoly := 0x07 })
    t.tab0[2] = 0x0E ∧ t.tab0[7] = 0x15 ∧ t.tab0[0x80] = 0x89 ∧ t.tab0[0xFF] = 0xF3 ∧ t.crc0Cfg.word = 0x00070008 := by
  decide +kernel

/-- Rule R286: after reset a length of 300 gives the code of the missing table. -/
theorem test_crcCalc_noinit_first :
    (after (exec (.crcCalc .bank1) { State.reset with crcLen := 300 })).result = .eCrcNoinit := by decide

/-- Rule R165: bytes 31 32 over the 14-bit bank, initial value 0. -/
theorem test_crcCalc_bank1 :
    let b := State.reset.buf
    (after (exec (.crcCalc .bank1) { inMode .compactIndexed with crcLen := 2, buf := (b.set 0 0x31).set 1 0x32 })).crcResult
      = 0x24FF := by decide +kernel

/-! ## The FHSS unit -/

/-- Rule R182: seed 1, four channels. -/
theorem test_build_trace : (((buildSeq 1 4).toList.take 8).map BitVec.toNat) = [2, 3, 0, 1, 2, 0, 1, 3] := by
  decide +kernel

/-- Rule R188, the latched registers and the frequency of channel 40 after a build of 80 channels. -/
theorem test_build_spread :
    freqSpread 12098953 12498954 80 = 1296205 ∧ seqCount 80 = 240 ∧ syncChan 80 = 40 ∧
      ({ State.reset with fhssActStart := 12098953, fhssSpread := 1296205, seq := State.reset.seq.set 0 40 } :
        State).fhssFreq = 12301485 := by decide

/-- Rule R185: with 240 entries, 239 goes to 0. -/
theorem test_hop_wraps :
    let t := after (exec .fhssHop { State.reset with fhssValid := true, fhssSeqCount := 240, fhssPtr := 239 })
    t.fhssPtr = 0 ∧ t.result = .ok := by decide

theorem test_hop_without_schedule : (after (exec .fhssHop State.reset)).result = .eFhssNoseq := by decide

/-! ## The OTA unit, transmit side -/

/-- Rule R312: `OTA.CONFIG 0` from reset. -/
theorem test_config_from_reset :
    let t := after (exec (.otaConfig 0) State.reset)
    t.readReg .status = 0x0A0 ∧ t.readReg .crc1Cfg = 0x2E57000E ∧ t.readReg .otaPktLen = 8 := by decide

/-- Rule R286: the in-flight check comes before the mode check. -/
theorem test_config_in_flight_first :
    (after (exec (.otaConfig 7) { State.reset with txInflight := true })).result = .eTxInflight := by decide

/-- All channels at 992, rule R232. -/
def centred (m : Mode) : State := { inMode m with ch := Vector.replicate 16 992 }

/-- Rule R232, the source's scenario 7. -/
theorem test_pack_scenario_7 :
    let t := after (exec .otaPack (centred .compactIndexed))
    t.pkt.toList = [0xDC, 0x00, 0x02, 0x08, 0x20, 0x80, 0x04, 0x33, 0, 0, 0, 0, 0] ∧ t.swIdx = 1 := by decide +kernel

/-- Rule R235: mode 2, all channels 992. -/
theorem test_pack_extended :
    let t := after (exec .otaPack (centred .extended))
    t.pkt.toList = [0x00, 0xF0, 0xC1, 0x07, 0x1F, 0x7C, 0xF0, 0xC1, 0x07, 0x1F, 0x7C, 0xBA, 0xF4] ∧
      t.auxHalf = true := by decide +kernel

/-- Rule R231: a packet of type `0b10` in mode 0, garbage in the CRC field. -/
theorem test_seal_opaque :
    (after (exec .otaSeal { inMode .compactIndexed with
      otaCrcInit := 0x55AA, pkt := #v[0xFE, 1, 2, 3, 4, 5, 6, 0x99, 0, 0, 0, 0, 0] })).pkt.toList =
      [0x3E, 1, 2, 3, 4, 5, 6, 0x5E, 0, 0, 0, 0, 0] := by decide +kernel

/-- Rule R231: mode 1 with an illegal interval seals a packet that is not RC data. -/
theorem test_seal_non_rc_in_mode_1 :
    (after (exec .otaSeal { inMode .compactWide with
      fhssHopInterval := 64, pkt := #v[2, 0, 0, 0, 0, 0, 0, 0, 0, 0, 0, 0, 0] })).pkt.toList =
      [0x46, 0, 0, 0, 0, 0, 0, 0xF8, 0, 0, 0, 0, 0] := by decide +kernel

/-! ## The OTA unit, receive side -/

/-- The packet of rule R232 in a block of mode 0. -/
def received : State :=
  { inMode .compactIndexed with pkt := #v[0xDC, 0x00, 0x02, 0x08, 0x20, 0x80, 0x04, 0x33, 0, 0, 0, 0, 0] }

theorem received_crc : received.pktCrc = received.storedCrc := by decide +kernel

/-- The same packet with its last CRC bit flipped (rule R268). -/
def damaged : State := { received with pkt := received.pkt.set 7 0x32 }

theorem damaged_crc : damaged.pktCrc ≠ damaged.storedCrc := by decide +kernel

/-- Rule R268: `OTA.VALIDATE` of the good packet and of the damaged one. -/
theorem test_validate_scenario_7 :
    (after (exec .otaValidate received)).crcOk = true ∧ (after (exec .otaValidate damaged)).crcOk = false := by
  decide +kernel

/-- Rule R253: a packet sealed at nonce 5 with hop interval 4 fails at nonce 6 and passes at nonce 9. -/
theorem test_validate_nonce :
    let t := after (exec .otaSeal { inMode .compactWide with otaNonce := 5, fhssHopInterval := 4 })
    (after (exec .otaValidate { t with otaNonce := 6 })).crcOk = false ∧
      (after (exec .otaValidate { t with otaNonce := 9 })).crcOk = true := by decide +kernel

/-- Rule R268: `OTA.UNPACK` of the good packet. -/
theorem test_unpack_scenario_7 :
    let t := after (exec .otaUnpack received)
    t.rxUpdated = true ∧ t.rxch.toList = [992, 992, 992, 992, 0, 1105, 0, 0, 0, 0, 0, 0, 0, 0, 0, 0] := by decide +kernel

/-- Packet 1 of rule R235, mode 3, in a block of that mode. -/
def receivedHigh : State :=
  { inMode .extended16 with
    otaCrcInit := 0xBEEF
    pkt := #v[0xE0, 0x93, 0x15, 0x77, 0x5F, 0x8A, 0x5B, 0x36, 0xFA, 0x6B, 0xBC, 0x70, 0xAC] }

theorem receivedHigh_crc : receivedHigh.pktCrc = receivedHigh.storedCrc := by decide +kernel

/-- Rule R269: the packet fills `RXCH[8..15]`. -/
theorem test_unpack_extended_high :
    let t := after (exec .otaUnpack receivedHigh)
    t.rxch.toList = [0, 0, 0, 0, 0, 0, 0, 0, 806, 906, 1006, 1106, 1206, 1306, 1406, 1506] ∧ t.otaRxPower = 5 ∧
      t.readReg .otaRxFlags = 5 := by decide +kernel

/-! ## The register window (rules R84 to R88) -/

/-- The worked cases of rule R86. -/
theorem test_worked_writes :
    (after (step (issued [.write 0x020 4 0x0000010E]))).crcBits = 14 ∧
      (after (step (issued [.write 0x100 4 5000]))).ch[0] = 2047 ∧
      (after (step (issued [.write 0x100 4 100]))).ch[0] = 100 ∧
      (after (step (issued [.write 0x090 4 0xFFFFFFFF]))).txFlags = 3 ∧
      (after (step (issued [.write 0x054 4 7]))).fhssSeqCount = 0 := by decide +kernel

/-- Reads after the first refusal of rule R297 and the hop-sync value of nonce 7 and interval 4. -/
theorem test_reads :
    (after (step { issued [.read 0x00C 4] with firstErr := .eFhssNoseq })).answer = some 7 ∧
      (after (step { issued [.read 0x074 4] with otaNonce := 7, fhssHopInterval := 4 })).answer = some 4 := by
  decide +kernel

/-- Both ends of every reserved range of rule R88, and the defined offsets next to them. -/
theorem test_reserved_ends :
    [0x014, 0x01C, 0x03C, 0x078, 0x07C, 0x0A8, 0x0FC, 0x1B4, 0x3FC, 0x1400].all (fun o => (locate o).isNone) = true ∧
      [0x010, 0x020, 0x038, 0x040, 0x074, 0x080, 0x0A4, 0x100, 0x1B0, 0x400, 0x13FC].all
        (fun o => (locate o).isSome) = true := by decide +kernel

/-! ## Witnesses: for every statement with hypotheses, a state and operands that meet all of them; where a statement
has several clauses, one for each, at the ends of its range -/

theorem witness_StepRunsDecodedCommand :
    (issued [.write 0x000 4 0x00000130#32]).pending = .write 0x000 4 0x00000130#32 :: [] ∧
      decode 0x00000130#32 = .ok (.otaConfig 1) := by decide

theorem witness_IllegalWordRefusedWhateverTheState :
    (issued [.write 0x000 4 0x00000810#32]).pending = .write 0x000 4 0x00000810#32 :: [] ∧
      decode 0x00000810#32 = .error .reservedBits := by decide

theorem witness_IdleStepKeepsState : State.reset.pending = [] := rfl

/-- An access the spec gives no meaning, and one it does. -/
theorem witness_OnlyReservedAccessesStop :
    refusedBy (issued [.read 0x3FC 4]) (.reservedOffset 0x3FC) = true ∧ Access.defined (.read 0x3FC 4) = false ∧
      isRefused (issued [.read 0x400 4]) = false ∧ Access.defined (.read 0x400 4) = true := by decide +kernel

/-- Widths 0, 2, 3, 5 and 8, and offsets one before and one after a multiple of 4. -/
theorem witness_UnalignedOrOtherWidthRefused :
    ((0 ≠ 4 ∨ 0x008 % 4 ≠ 0) ∧ isRefused (issued [.read 0x008 0]) = true) ∧
      ((3 ≠ 4 ∨ 0x008 % 4 ≠ 0) ∧ isRefused (issued [.read 0x008 3]) = true) ∧
      ((5 ≠ 4 ∨ 0x010 % 4 ≠ 0) ∧ isRefused (issued [.write 0x010 5 1]) = true) ∧
      ((4 ≠ 4 ∨ 0x013 % 4 ≠ 0) ∧ isRefused (issued [.read 0x013 4]) = true) ∧
      ((4 ≠ 4 ∨ 0x011 % 4 ≠ 0) ∧ isRefused (issued [.write 0x011 4 1]) = true) := by decide +kernel

theorem witness_ReservedOffsetsRefused :
    0x1400 % 4 = 0 ∧ locate 0x1400 = none ∧ (issued [.read 0x1400 4]).pending = .read 0x1400 4 :: [] ∧
      (issued [.write 0x1400 4 9]).pending = .write 0x1400 4 9 :: [] := by decide +kernel

theorem witness_ReadAnswersAndChangesNothing :
    (issued [.read 0x13FC 4]).pending = .read (Loc.seq 255).offset 4 :: [] := by decide

/-- The hop intervals 0, 1, 127 and 255 (the last with log entry 5's reading), two codes, and the packet lengths. -/
theorem witness_StatusBitPlaces :
    let s (n h : BitVec 8) : State := { inMode .extended with otaNonce := n, fhssHopInterval := h, result := .eTxInflight }
    (s 5 0).fhssHopInterval.toNat = 0 ∧ (s 5 0).readReg .fhssHopSync = 0 ∧
      (1 ≤ (s 255 1).fhssHopInterval.toNat ∧ (s 255 1).readReg .fhssHopSync = 1) ∧
      ((s 126 127).fhssHopInterval.toNat ≤ 127 ∧ (s 126 127).readReg .fhssHopSync = 127) ∧
      ((s 254 255).fhssHopInterval.toNat ≠ 0 ∧ (s 254 255).readReg .fhssHopSync = 127) ∧
      (s 0 0).result = .eTxInflight ∧ (s 0 0).firstErr = .ok ∧ (s 0 0).otaMode = .extended ∧
      (s 0 0).readReg .otaPktLen = 13 ∧ State.reset.readReg .otaPktLen = 0 := by decide

theorem witness_ReadsDetermineTheState :
    (∀ l, State.reset.readLoc l = State.reset.readLoc l) ∧ State.reset.pending = State.reset.pending ∧
      State.reset.answer = State.reset.answer := ⟨fun _ => rfl, rfl, rfl⟩

/-- A read-only register, a narrowed register, a byte of `PKT` and a channel, each written with a value too wide. -/
theorem witness_HostWriteStoresItsWidth :
    ((Loc.reg .result).readOnly = true ∧ (issued [.write 0x008 4 9]).pending = .write (Loc.reg .result).offset 4 9 :: []) ∧
      ((Loc.reg .crcLen).readOnly = false ∧ (Loc.reg .crcLen).narrowedTo = some 9 ∧
        (after (step (issued [.write 0x028 4 0x3FF]))).crcLen = 0x1FF) ∧
      ((Loc.pkt 12).readOnly = false ∧ (Loc.pkt 12).narrowedTo = some 8 ∧
        (after (step (issued [.write 0x1B0 4 0x1FE]))).pkt[12] = 0xFE) ∧
      ((Loc.ch 15).readOnly = false ∧ (after (step (issued [.write 0x13C 4 2048]))).ch[15] = 2047 ∧
        (after (step (issued [.write 0x13C 4 2046]))).ch[15] = 2046) ∧
      (Loc.reg .fhssHopSync).follows (.reg .otaNonce) = true := by decide +kernel

theorem witness_BothResetsGiveTheResetState :
    (issued [.reset]).pending = .reset :: [] ∧
      (issued [.write 0x000 4 0x00000001#32]).pending = .write 0x000 4 0x00000001#32 :: [] := by decide

/-- A refused command and a refused illegal word. -/
theorem witness_RefusalChangesNothingElse :
    ((State.reset.refuse .eFhssNoseq).result ≠ .ok ∧ exec .fhssHop State.reset = .next (State.reset.refuse .eFhssNoseq)) ∧
      (State.reset.refuse .eOpcode).result ≠ .ok ∧
        runCommand 0x000000FF#32 State.reset = .next (State.reset.refuse .eOpcode) :=
  ⟨⟨by decide, rfl⟩, by decide, runCommand_of_illegal (e := .unassignedOpcode) (by decide) _⟩

/-- A block that has refused a command. -/
def erred (l : List Access) : State := { issued l with err := true, firstErr := .eOtaNocfg }

/-- A further refusal, and the reset event. -/
theorem witness_FirstErrorStaysUntilReset :
    (erred [.write 0x000 4 0x21#32]).err = true ∧ (erred [.write 0x000 4 0x21#32]).firstErr ≠ .ok ∧
      (∃ t, step (erred [.write 0x000 4 0x21#32]) = .next t) ∧ ∃ t, step (erred [.reset]) = .next t := by
  refine ⟨rfl, by decide, ?_, ⟨_, rfl⟩⟩
  rw [step_of_pending (a := commandWrite 0x21#32) (rest := []) rfl, access_commandWrite]
  exact runCommand_answers_next _ _

theorem witness_ValidityFlagsOnlyRise : ∃ t, step { State.reset with pending := [.reset] } = .next t := ⟨_, rfl⟩

/-- A block on which every command but `SYS.RESET` is accepted: mode 0, bank 0 with a table, a legal domain, a schedule. -/
def ready : State :=
  { inMode .compactIndexed with
    crcBits := 8, crcPoly := 0xD5, fhssFreqCount := 2, fhssFreqStop := 0xFFFFFF
    fhssValid := true, fhssActCount := 2, fhssSeqCount := 256, fhssSync := 1 }

/-- Every command of the statement is accepted on the state `ready`. -/
theorem witness_CommandWritesOnlyItsColumn :
    (∃ t, exec .sysNop ready = .next t ∧ t.result = .ok) ∧ (∃ t, exec .crcInit ready = .next t ∧ t.result = .ok) ∧
      (∃ t, exec (.crcCalc .bank1) ready = .next t ∧ t.result = .ok) ∧
      (∃ t, exec .fhssBuild ready = .next t ∧ t.result = .ok) ∧ (∃ t, exec .fhssHop ready = .next t ∧ t.result = .ok) ∧
      (∃ t, exec (.otaConfig 3) ready = .next t ∧ t.result = .ok) ∧ (∃ t, exec .otaPack ready = .next t ∧ t.result = .ok) ∧
      (∃ t, exec .otaSeal ready = .next t ∧ t.result = .ok) ∧ (∃ t, exec .otaValidate ready = .next t ∧ t.result = .ok) ∧
      (∃ t, exec .otaUnpack received = .next t ∧ t.result = .ok) ∧
      (ready.otaMode.isCompact = true ∧ (inMode .extended).otaMode.isCompact = false ∧
        (after (exec .otaSeal (inMode .extended))).result = .ok) ∧
      ¬(damaged.pktCrc = damaged.storedCrc ∧ damaged.pkt[0].extractLsb' 0 2 = 0b00#2) ∧
        ∃ t, exec .otaUnpack damaged = .next t ∧ t.result = .ok :=
  ⟨⟨_, rfl, by decide⟩, ⟨_, rfl, by decide⟩, ⟨_, rfl, by decide⟩, ⟨_, rfl, by decide⟩, ⟨_, rfl, by decide⟩,
    ⟨_, rfl, by decide⟩, ⟨_, rfl, by decide⟩, ⟨_, rfl, by decide⟩, ⟨_, rfl, by decide⟩, ⟨_, rfl, by decide +kernel⟩,
    ⟨rfl, rfl, by decide⟩, fun h => damaged_crc h.1, ⟨_, rfl, by decide +kernel⟩⟩

theorem witness_InFlightFreezesCodecAndSchedule :
    let s : State := { ready with txInflight := true }
    s.txInflight = true ∧ Instr.otaPack ≠ .sysReset ∧ ∃ t, exec .otaPack s = .next t := ⟨rfl, by decide, ⟨_, rfl⟩⟩

/-- The polynomial just too wide and just fitting, for the widths 8 and 14; width 15, between two legal ones; width 16. -/
theorem witness_CrcInitBuildsBankZero :
    (BitVec.toNat 15#5 ∉ [8, 14, 16]) ∧
      (BitVec.toNat 14#5 ∈ [8, 14, 16] ∧ 2 ^ BitVec.toNat 14#5 ≤ BitVec.toNat 0x4000#16) ∧
      (BitVec.toNat 14#5 ∈ [8, 14, 16] ∧ BitVec.toNat 0x3FFF#16 < 2 ^ BitVec.toNat 14#5) ∧
      (BitVec.toNat 8#5 ∈ [8, 14, 16] ∧ 2 ^ BitVec.toNat 8#5 ≤ BitVec.toNat 0x100#16) ∧
      (BitVec.toNat 16#5 ∈ [8, 14, 16] ∧ BitVec.toNat 0xFFFF#16 < 2 ^ BitVec.toNat 16#5) ∧
      (after (exec .crcInit { State.reset with crcBits := 14, crcPoly := 0x4000 })).result = .eCrcPoly ∧
      (after (exec .crcInit { State.reset with crcBits := 14, crcPoly := 0x3FFF })).result = .ok ∧
      (after (exec .crcInit { State.reset with crcBits := 15 })).result = .eCrcWidth := by decide

/-- Lengths 256 and 257, and an empty bank. -/
theorem witness_CrcCalcFoldsTheBuffer :
    ({ ready with crcLen := 256 } : State).bankValid .bank1 = true ∧ BitVec.toNat 256#9 ≤ 256 ∧
      256 < BitVec.toNat 257#9 ∧ ready.bankValid .bank0 = false ∧
      (after (exec (.crcCalc .bank1) { ready with crcLen := 257 })).result = .eCrcLen ∧
      (after (exec (.crcCalc .bank1) { ready with crcLen := 256 })).result = .ok := by decide

theorem witness_CrcOfEmptyBufferIsInitialValue : ready.bankValid .bank1 = true ∧ ready.crcLen = 0 := by decide

/-- A polynomial at the top of the 14-bit range, and bytes on both sides of 128. -/
theorem witness_CrcTableFacts :
    14 ∈ [8, 14, 16] ∧ (0x3FFF#16).toNat < 2 ^ 14 ∧ (0x7F#8).toNat < 128 ∧ ¬(0x80#8).toNat < 128 := by decide

theorem witness_FoldStepIsBitSerial :
    8 ∈ [8, 14, 16] ∧ (0xFF#16).toNat < 2 ^ 8 ∧ (0x80#16).toNat < 2 ^ 8 := by decide

theorem witness_CrcIsLinear :
    16 ∈ [8, 14, 16] ∧ (0x3D65#16).toNat < 2 ^ 16 ∧ ([1, 2] : List Byte).length = ([3, 4] : List Byte).length := by decide

/-- The channel counts 1, 2, 256 and 257, a stop below the start, and the spans `2^24 - 1` and `2^24`. -/
theorem witness_FhssBuildSetsTheSchedule :
    let s (n : BitVec 9) (start stop : BitVec 32) : State :=
      { State.reset with fhssFreqCount := n, fhssFreqStart := start, fhssFreqStop := stop }
    (after (exec .fhssBuild { s 80 0 0 with txInflight := true })).result = .eTxInflight ∧
      (after (exec .fhssBuild (s 1 0 0))).result = .eFhssDomain ∧ (after (exec .fhssBuild (s 2 0 0))).result = .ok ∧
      (after (exec .fhssBuild (s 256 0 0xFFFFFF))).result = .ok ∧
      (after (exec .fhssBuild (s 257 0 0))).result = .eFhssDomain ∧
      (after (exec .fhssBuild (s 2 1 0))).result = .eFhssDomain ∧
      (after (exec .fhssBuild (s 2 0 0x1000000))).result = .eFhssDomain := by decide

/-- The ends of the domain, and the last position of a schedule with the first one after it. -/
theorem witness_BuiltScheduleWellFormed :
    (2 ≤ 2 ∧ 2 ≤ 256 ∧ 255 < 256 / 2 * 2 ∧ 0 = (255 + 1) % (256 / 2 * 2)) ∧
      2 ≤ 256 ∧ 256 ≤ 256 ∧ 255 < 256 / 256 * 256 ∧ 0 = (255 + 1) % (256 / 256 * 256) := by decide

theorem witness_FhssHopAdvancesThePointer :
    State.reset.fhssValid = false ∧ ready.fhssValid = true ∧ ready.fhssSeqCount.toNat ≤ 256 ∧
      ({ ready with fhssPtr := 255 } : State).fhssPtr.toNat < ready.fhssSeqCount.toNat := by decide

theorem witness_HopsCycleThroughTheSchedule :
    ready.fhssValid = true ∧ ready.fhssSeqCount.toNat ≤ 256 ∧ ready.fhssPtr.toNat < ready.fhssSeqCount.toNat := by decide

/-- Two accepted builds with seeds that differ in bit 31. -/
theorem witness_SameSeedKeepsLockstep :
    ({ ready with fhssSeed := 1 } : State).fhssSeed.toNat % 2 ^ 31 =
        ({ ready with fhssSeed := 0x80000001 } : State).fhssSeed.toNat % 2 ^ 31 ∧
      ({ ready with fhssSeed := 1 } : State).fhssFreqCount =
        ({ ready with fhssSeed := 0x80000001 } : State).fhssFreqCount ∧
      (∃ a, exec .fhssBuild { ready with fhssSeed := 1 } = .next a ∧ a.result = .ok) ∧
      ∃ b, exec .fhssBuild { ready with fhssSeed := 0x80000001 } = .next b ∧ b.result = .ok :=
  ⟨by decide, rfl, ⟨_, rfl, by decide⟩, ⟨_, rfl, by decide⟩⟩

/-- The schedule of two channels: sync channel 1, channel 0, and so on. -/
def twoChannels : Vector Byte 256 := Vector.ofFn fun i => if i.val % 2 = 0 then 1 else 0

theorem twoChannels_wellFormed : WellFormedSchedule twoChannels 2 := by
  refine ⟨?_, fun i h h' => by omega⟩
  have h : ∀ b : Fin 128, blockOf twoChannels 2 b.val = [1, 0] := by decide +kernel
  intro b hb
  rw [h ⟨b, by omega⟩]
  decide

/-- A state with a schedule, its pointer at the last entry. -/
def hopping : State := { ready with seq := twoChannels, fhssPtr := 255 }

theorem witness_OnSyncExactlyAtBlockStart : hopping.ScheduleMatches := by
  unfold State.ScheduleMatches
  rw [if_pos (show hopping.fhssValid = true from rfl)]
  exact ⟨by decide, by decide, by decide, by decide, by decide, twoChannels_wellFormed⟩

/-- Rule R188's domain, at the channels 0 and 79. -/
theorem witness_FrequencyStaysInTheDomain :
    let s (c : Byte) : State :=
      { State.reset with fhssActStart := 12098953, fhssSpread := 1296205, seq := State.reset.seq.set 0 c }
    2 ≤ 80 ∧ 80 ≤ 256 ∧ (s 0).fhssActStart.toNat ≤ (12498954#32).toNat ∧
      (12498954#32).toNat - (s 0).fhssActStart.toNat ≤ 2 ^ 24 - 1 ∧
      (s 0).fhssSpread = freqSpread (s 0).fhssActStart 12498954 80 ∧ (s 0).fhssChan.toNat = 0 ∧
      (s 79).fhssChan.toNat = 80 - 1 ∧ (s 79).fhssFreq = 12498953 := by decide

/-- Modes 1, 2, 3 and 4, and the in-flight bit. -/
theorem witness_OtaConfigSwapsTheCodec :
    (after (exec (.otaConfig 1) State.reset)).crc1Cfg = ⟨14, 0x2E57⟩ ∧
      (after (exec (.otaConfig 2) State.reset)).crc1Cfg = ⟨16, 0x3D65⟩ ∧
      (after (exec (.otaConfig 3) State.reset)).otaMode = .extended16 ∧
      (after (exec (.otaConfig 4) State.reset)).result = .eOtaMode ∧
      (after (exec (.otaConfig 3) { State.reset with txInflight := true })).result = .eTxInflight := by decide

/-- The intervals 0, 1, 63 and 64 in mode 1 with an RC-data packet in `PKT`. -/
theorem witness_OtaPackAndUnpackRefusals :
    State.reset.otaValid = false ∧
      (∀ n ∈ [0#8, 64#8], ({ inMode .compactWide with fhssHopInterval := n } : State).HopRefused ∧
        (after (exec .otaPack { inMode .compactWide with fhssHopInterval := n })).result = .eOtaHopint) ∧
      ∀ n ∈ [1#8, 63#8], (after (exec .otaPack { inMode .compactWide with fhssHopInterval := n })).result = .ok := by
  unfold State.HopRefused
  decide

/-- A mode's own table stands in bank 1 right after `OTA.CONFIG`. -/
theorem inMode_bank1Matches (m : Mode) : (inMode m).Bank1Matches := ⟨rfl, rfl, rfl⟩

/-- The first and the last index of the cycle. -/
theorem witness_OtaPackIndexed :
    ∀ i ∈ [0#3, 6#3], ({ inMode .compactIndexed with swIdx := i } : State).otaValid = true ∧
      ({ inMode .compactIndexed with swIdx := i } : State).CursorInCycle ∧
      ({ inMode .compactIndexed with swIdx := i } : State).Bank1Matches := by
  intro i hi
  refine ⟨rfl, ?_, inMode_bank1Matches .compactIndexed⟩
  unfold State.CursorInCycle
  revert i
  decide

/-- A block of mode 1 with the given nonce, telemetry denominator and hop interval. -/
def wide (n d h : BitVec 8) : State := { inMode .compactWide with otaNonce := n, otaTlmDenom := d, fhssHopInterval := h }

/-- Indices 6 and 7, the denominators 1, 2, 7 and 8, the intervals 1 and 63. -/
theorem witness_OtaPackWide :
    (∀ n d h, (wide n d h).otaValid = true ∧ (wide n d h).otaMode = .compactWide ∧ (wide n d h).Bank1Matches) ∧
      (wide 0 0 1).HopReady ∧ (wide 0 0 63).HopReady ∧ (wideIndex 7).toNat = 7 ∧ (wideIndex 6).toNat = 6 ∧
      (wide 6 2 1).tlmEvery = true ∧ (wide 6 7 1).tlmEvery = true ∧ (wide 6 1 1).tlmEvery = false ∧
      (wide 6 8 1).tlmEvery = false := by
  refine ⟨fun n d h => ⟨rfl, rfl, inMode_bank1Matches .compactWide⟩, ?_⟩
  unfold State.HopReady
  decide

/-- Both extended modes with both aux halves. -/
theorem witness_OtaPackExtended :
    ∀ m ∈ [Mode.extended, Mode.extended16], ∀ h : Bool, ({ inMode m with auxHalf := h } : State).otaValid = true ∧
      (({ inMode m with auxHalf := h } : State).otaMode = .extended ∨
        ({ inMode m with auxHalf := h } : State).otaMode = .extended16) ∧
      ({ inMode m with auxHalf := h } : State).Bank1Matches := by
  intro m hm h
  refine ⟨rfl, ?_, inMode_bank1Matches m⟩
  revert m h
  decide

/-- Two blocks that differ in `PKT`. -/
theorem witness_PacketDependsOnItsInputsOnly :
    let a := received
    let b := inMode .compactIndexed
    a.pkt ≠ b.pkt ∧ a.otaValid = b.otaValid ∧ a.otaMode = b.otaMode ∧ a.ch = b.ch ∧ a.txArmed = b.txArmed ∧
      a.txTlm = b.txTlm ∧ a.otaUplinkPower = b.otaUplinkPower ∧ a.otaNonce = b.otaNonce ∧
      a.otaTlmDenom = b.otaTlmDenom ∧ a.otaCrcInit = b.otaCrcInit ∧ a.fhssHopInterval = b.fhssHopInterval ∧
      a.swIdx = b.swIdx ∧ a.auxHalf = b.auxHalf ∧ a.tab1 = b.tab1 ∧
      (∃ t, exec .otaPack a = .next t ∧ t.result = .ok) ∧ ∃ t, exec .otaPack b = .next t ∧ t.result = .ok :=
  ⟨by decide, rfl, rfl, rfl, rfl, rfl, rfl, rfl, rfl, rfl, rfl, rfl, rfl, rfl, ⟨_, rfl, by decide⟩, ⟨_, rfl, by decide⟩⟩

/-- No mode, an illegal interval at both ends, a legal one at both ends, and an extended mode; a packet of mode 1 whose
CRC takes the hop-sync value, and one whose CRC does not. -/
theorem witness_OtaSealStoresTheCrc :
    State.reset.otaValid = false ∧ (∀ n ∈ [0#8, 64#8], (wide 0 0 n).HopRefused) ∧
      (∀ n ∈ [1#8, 63#8], ¬(wide 0 0 n).HopRefused) ∧ ¬(inMode .extended).HopRefused ∧
      (wide 0 0 1).otaMode.isCompact = true ∧ (inMode .extended).otaMode.isCompact = false ∧
      (wide 5 1 63).crcSub = 6 ∧ ({ wide 5 1 63 with pkt := (wide 5 1 63).pkt.set 0 1 } : State).crcSub = 0 := by
  unfold State.HopRefused
  decide

theorem witness_IndexedPolicyCoversEverySwitch :
    (inMode .compactIndexed).otaValid = true ∧ (inMode .compactIndexed).otaMode = .compactIndexed ∧
      (inMode .compactIndexed).CursorInCycle := by
  unfold State.CursorInCycle
  decide

theorem witness_WidePolicyCoversEverySwitch : (1 ≤ 1 ∧ 1 ≤ 7) ∧ 1 ≤ 7 ∧ 7 ≤ 7 := by decide

theorem witness_OtaValidateComparesTheCrc :
    State.reset.otaValid = false ∧ (wide 0 0 64).HopRefused ∧ (wide 0 0 63).otaValid = true ∧
      ¬(wide 0 0 63).HopRefused ∧ (wide 0 0 63).otaMode.isCompact = true ∧
      (inMode .extended).otaMode.isCompact = false := by
  unfold State.HopRefused
  decide

theorem witness_FreshPacketValidates :
    (inMode .extended).Bank1Matches ∧ (∃ t, exec .otaPack (inMode .extended) = .next t ∧ t.result = .ok) ∧
      (∃ t, exec .otaSeal (inMode .extended) = .next t ∧ t.result = .ok) ∧
      (wide 5 1 4).Bank1Matches ∧ (wide 5 1 4).otaMode = .compactWide ∧
        ∃ t, exec .otaSeal (wide 5 1 4) = .next t ∧ t.result = .ok ∧ t.pkt[0].extractLsb' 0 2 = 0b00#2 :=
  ⟨inMode_bank1Matches .extended, ⟨_, rfl, by decide⟩, ⟨_, rfl, by decide⟩, inMode_bank1Matches .compactWide, rfl,
    ⟨_, rfl, by decide, by decide +kernel⟩⟩

theorem received_bank1Matches : received.Bank1Matches := inMode_bank1Matches .compactIndexed

theorem receivedHigh_bank1Matches : receivedHigh.Bank1Matches := inMode_bank1Matches .extended16

/-- The last byte of a compact packet and of an extended one. -/
theorem witness_SingleBitFlipIsDetected :
    (received.otaValid = true ∧ received.Bank1Matches ∧ received.pktCrc = received.storedCrc ∧
        (7 : Fin 13).val < received.otaMode.pktLen ∧ ¬(received.flipPkt 7 7).HopRefused) ∧
      receivedHigh.otaValid = true ∧ receivedHigh.Bank1Matches ∧ receivedHigh.pktCrc = receivedHigh.storedCrc ∧
        (12 : Fin 13).val < receivedHigh.otaMode.pktLen ∧ ¬(receivedHigh.flipPkt 12 0).HopRefused := by
  refine ⟨⟨rfl, received_bank1Matches, received_crc, by decide, ?_⟩, rfl, receivedHigh_bank1Matches, receivedHigh_crc,
    by decide, ?_⟩ <;> (rintro ⟨h, -⟩; cases h)

theorem witness_UnpackDropsBadCrcSilently :
    damaged.otaValid = true ∧ ¬damaged.HopRefused ∧ damaged.pktCrc ≠ damaged.storedCrc :=
  ⟨rfl, (by rintro ⟨h, -⟩; cases h), damaged_crc⟩

/-- The sealed packet of type `0b10` of rule R231, mode 1 with the illegal interval 64. -/
def opaquePacket : State :=
  { inMode .compactWide with fhssHopInterval := 64, pkt := #v[0x46, 0, 0, 0, 0, 0, 0, 0xF8, 0, 0, 0, 0, 0] }

theorem witness_UnpackLeavesNonRcPacketAlone :
    opaquePacket.otaValid = true ∧ opaquePacket.pktCrc = opaquePacket.storedCrc ∧
      opaquePacket.pkt[0].extractLsb' 0 2 ≠ 0b00#2 := by decide +kernel

/-- Packet 0 and packet 6 of rule R233: the index bits read 0 and 7. -/
theorem witness_OtaUnpackIndexed :
    let s (p : Vector Byte 13) : State := { inMode .compactIndexed with otaCrcInit := 0xABCD, pkt := p }
    let p := #v[0xB0, 0x00, 0x00, 0xF8, 0x7F, 0x81, 0xC0, 0x3F, 0, 0, 0, 0, 0]
    let q := #v[0x0C, 0x00, 0x00, 0xF8, 0x7F, 0x81, 0xFD, 0x6C, 0, 0, 0, 0, 0]
    (s p).otaValid = true ∧ (s p).otaMode = .compactIndexed ∧ (s p).pktCrc = (s p).storedCrc ∧
      (s p).pkt[0].extractLsb' 0 2 = 0b00#2 ∧ ((s p).pkt[6].extractLsb' 3 3).toNat = 0 ∧
      (s q).pktCrc = (s q).storedCrc ∧ (s q).pkt[0].extractLsb' 0 2 = 0b00#2 ∧
      ((s q).pkt[6].extractLsb' 3 3).toNat = 7 := by decide +kernel

/-- Three packets of rule R234: index 6 in the 7-bit and in the 6-bit form, and index 7. -/
theorem witness_OtaUnpackWide :
    let s (n d : BitVec 8) (a b c : Byte) : State :=
      { wide n d 4 with otaCrcInit := 0x1234, pkt := #v[a, 0x00, 0x00, 0xF8, 0x7F, 0x81, b, c, 0, 0, 0, 0, 0] }
    (∀ t ∈ [s 6 1 0xA8 0x68 0xDF, s 6 4 0x60 0x74 0xA4, s 7 1 0x94 0x43 0x3A],
      t.otaValid = true ∧ t.otaMode = .compactWide ∧ t.HopReady ∧ t.pktCrc = t.storedCrc ∧
        t.pkt[0].extractLsb' 0 2 = 0b00#2) ∧
      (s 6 1 0 0 0).tlmEvery = false ∧ (s 6 4 0 0 0).tlmEvery = true ∧ (wideIndex 6).toNat = 6 ∧
      (wideIndex 7).toNat = 7 := by
  unfold State.HopReady
  decide +kernel

theorem witness_OtaUnpackExtended :
    receivedHigh.otaValid = true ∧ (receivedHigh.otaMode = .extended ∨ receivedHigh.otaMode = .extended16) ∧
      receivedHigh.pktCrc = receivedHigh.storedCrc ∧ receivedHigh.pkt[0].extractLsb' 0 2 = 0b00#2 :=
  ⟨rfl, .inr rfl, receivedHigh_crc, by decide⟩

/-- Sender and receiver freshly configured alike. -/
theorem witness_IndexedRoundTrip :
    (inMode .compactIndexed).otaValid = true ∧ (inMode .compactIndexed).otaMode = .compactIndexed ∧
      (inMode .compactIndexed).CursorInCycle ∧ (inMode .compactIndexed).Bank1Matches ∧
      received.otaValid = true ∧ received.otaMode = .compactIndexed ∧ received.Bank1Matches ∧
      received.otaCrcInit = (inMode .compactIndexed).otaCrcInit ∧ ∃ t, exec .otaPack (inMode .compactIndexed) = .next t :=
  ⟨rfl, rfl, by unfold State.CursorInCycle; decide, inMode_bank1Matches _, rfl, rfl, received_bank1Matches, rfl, ⟨_, rfl⟩⟩

theorem witness_WideRoundTrip :
    let s := wide 7 4 63
    let r : State := { wide 7 4 63 with rxTlm := true, pkt := received.pkt }
    s.otaValid = true ∧ s.otaMode = .compactWide ∧ s.HopReady ∧ s.Bank1Matches ∧ r.otaValid = true ∧
      r.otaMode = .compactWide ∧ r.Bank1Matches ∧ r.otaCrcInit = s.otaCrcInit ∧ r.otaNonce = s.otaNonce ∧
      r.otaTlmDenom = s.otaTlmDenom ∧ r.fhssHopInterval = s.fhssHopInterval ∧ ∃ t, exec .otaPack s = .next t :=
  ⟨rfl, rfl, by unfold State.HopReady; decide, inMode_bank1Matches .compactWide, rfl, rfl,
    inMode_bank1Matches .compactWide, rfl, rfl, rfl, rfl, ⟨_, rfl⟩⟩

theorem witness_ExtendedRoundTrip :
    let s := inMode .extended16
    let r : State := { receivedHigh with otaCrcInit := 0 }
    s.otaValid = true ∧ (s.otaMode = .extended ∨ s.otaMode = .extended16) ∧ s.Bank1Matches ∧ r.otaValid = true ∧
      r.otaMode = s.otaMode ∧ r.Bank1Matches ∧ r.otaCrcInit = s.otaCrcInit ∧ ∃ t, exec .otaPack s = .next t :=
  ⟨rfl, .inr rfl, inMode_bank1Matches _, rfl, rfl, receivedHigh_bank1Matches, rfl, ⟨_, rfl⟩⟩

/-- A block with a table in each bank, a schedule, a refusal behind it and a command ahead. -/
def running : State :=
  { hopping with
    err := true, firstErr := .eOtaHopint, crc0Valid := true, crc0Cfg := ⟨8, 0xD5⟩, tab0 := crcTable 8 0xD5
    pending := [.write 0x000 4 0x21#32] }

theorem running_bank0Matches : running.Bank0Matches := ⟨by decide, by decide, rfl⟩

theorem running_bank1Matches : running.Bank1Matches := inMode_bank1Matches .compactIndexed

theorem running_step : ∃ t, step running = .next t := by
  rw [step_of_pending (a := commandWrite 0x21#32) (rest := []) rfl, access_commandWrite]
  exact runCommand_answers_next _ _

theorem witness_StepKeepsBanksMatched : running.Bank0Matches ∧ running.Bank1Matches ∧ ∃ t, step running = .next t :=
  ⟨running_bank0Matches, running_bank1Matches, running_step⟩

theorem witness_StepKeepsCoherence : running.Coherent ∧ ∃ t, step running = .next t :=
  ⟨⟨by unfold State.ErrMirrors; decide, by unfold State.CursorInCycle; decide, running_bank0Matches, running_bank1Matches,
    witness_OnSyncExactlyAtBlockStart⟩, running_step⟩

end Sys2Proof.Tests
end

section
/-! Which steps stop: an access to which the spec gives no meaning is refused, and every other step has a next state. -/

namespace Sys2Proof.Machine

/-- A read and a write of the same offset and width have a meaning or lack it together. -/
theorem Access.defined_write (o b : Nat) (v : Word) : (Access.write o b v).defined = (Access.read o b).defined := rfl

theorem Access.defined_read_iff (o b : Nat) :
    (Access.read o b).defined = true ↔ b = 4 ∧ o % 4 = 0 ∧ (locate o).isSome = true := by
  simp [Access.defined, and_assoc]

/-- The bus finds a location exactly for the accesses that have a meaning (rules R87, R88). -/
theorem target_outcome (o b : Nat) :
    (∃ l, target o b = .ok l ∧ (Access.read o b).defined = true) ∨
      ∃ r, target o b = .error r ∧ (Access.read o b).defined = false := by
  rcases target_cases o b with ⟨r, hr, hundef⟩ | ⟨l, hl, hb, ho, hloc⟩
  · exact .inr ⟨r, hr, by rwa [← Bool.not_eq_true, Access.defined_read_iff]⟩
  · exact .inl ⟨l, hl, (Access.defined_read_iff o b).mpr ⟨hb, ho, by simp [hloc]⟩⟩

theorem access_read_refused {o b : Nat} {r : Refusal} (h : target o b = .error r) (s : State) :
    access (.read o b) s = .refused r := by
  simp [access, h]

theorem access_write_refused {o b : Nat} {r : Refusal} (h : target o b = .error r) (v : Word) (s : State) :
    access (.write o b v) s = .refused r := by
  simp [access, h]

/-- A write to a location has a next state, whether it runs a command or stores. -/
theorem access_write_answers_next {o b : Nat} {l : Loc} (h : target o b = .ok l) (v : Word) (s : State) :
    ∃ t, access (.write o b v) s = .next t := by
  by_cases hc : l = .reg .cmd
  · obtain ⟨t, ht⟩ := runCommand_answers_next v s
    exact ⟨t, by simp [access, h, hc, ht]⟩
  · exact ⟨_, access_write h hc v s⟩

/-- An access with a meaning has a next state, and one without is refused. -/
theorem access_outcome (a : Access) (s : State) :
    (a.defined = true ∧ ∃ t, access a s = .next t) ∨ (a.defined = false ∧ ∃ r, access a s = .refused r) := by
  cases a with
  | read o b =>
    rcases target_outcome o b with ⟨l, hl, hdef⟩ | ⟨r, hr, hundef⟩
    · exact .inl ⟨hdef, _, access_read hl s⟩
    · exact .inr ⟨hundef, r, access_read_refused hr s⟩
  | write o b v =>
    rw [Access.defined_write]
    rcases target_outcome o b with ⟨l, hl, hdef⟩ | ⟨r, hr, hundef⟩
    · exact .inl ⟨hdef, access_write_answers_next hl v s⟩
    · exact .inr ⟨hundef, r, access_write_refused hr v s⟩
  | reset => exact .inl ⟨rfl, _, rfl⟩

theorem step_of_idle {s : State} (h : s.pending = []) : step s = .next s := by
  simp [step, takeNext, h]

/-- A step has a next state unless the oldest pending access has no meaning; then it is refused. -/
theorem step_outcome (s : State) :
    ((∃ t, step s = .next t) ∧ ∀ a rest, s.pending = a :: rest → a.defined = true) ∨
      ((∃ r, step s = .refused r) ∧ ∃ a rest, s.pending = a :: rest ∧ a.defined = false) := by
  cases hp : s.pending with
  | nil => exact .inl ⟨⟨s, step_of_idle hp⟩, by simp⟩
  | cons a rest =>
    rw [step_of_pending hp]
    rcases access_outcome a { s with pending := rest } with ⟨hdef, hnext⟩ | ⟨hundef, hrefused⟩
    · refine .inl ⟨hnext, fun a' rest' h => ?_⟩
      obtain ⟨rfl, -⟩ := List.cons.inj h
      exact hdef
    · exact .inr ⟨hrefused, a, rest, rfl, hundef⟩

/-- Settles O7: by the outcomes of a step, of which there are two, next and refused. -/
theorem onlyReservedAccessesStop : Obligations.OnlyReservedAccessesStop := by
  intro s
  rcases step_outcome s with ⟨⟨t, ht⟩, hdef⟩ | ⟨⟨r, hr⟩, hundef⟩
  · refine ⟨by simp [ht], fun ⟨r, hr⟩ => ?_, fun ⟨a, rest, hp, hundef⟩ => ?_⟩
    · simp [ht] at hr
    · simp [hdef a rest hp] at hundef
  · exact ⟨by simp [hr], fun _ => hundef, fun _ => ⟨r, hr⟩⟩

end Sys2Proof.Machine
end

section
/-! The hop schedule by its entries: a well-formed schedule stays well formed under a swap inside a block, the build of
rule R175 gives one, and its sync channel stands at the block starts alone. -/

namespace Sys2Proof.Machine

/-- The channel index at a position of a schedule; 0 past the end of the array. -/
def scheduleEntry (seq : Vector Byte 256) (i : Nat) : Nat := (seq[i]?.getD 0).toNat

/-- Block `b` of a schedule of `n` channels as a tuple (rule R170). -/
def blockEntries (seq : Vector Byte 256) (n b : Nat) (k : Fin n) : Nat := scheduleEntry seq (b * n + k.val)

theorem scheduleEntry_of_lt (seq : Vector Byte 256) {i : Nat} (h : i < 256) : scheduleEntry seq i = seq[i].toNat := by
  simp [scheduleEntry, h]

theorem scheduleEntry_of_ge (seq : Vector Byte 256) {i : Nat} (h : 256 ≤ i) : scheduleEntry seq i = 0 := by
  simp [scheduleEntry, h]

/-- A position of a block lies inside the schedule. -/
theorem block_position_lt {n b k : Nat} (hb : b < 256 / n) (hk : k < n) : b * n + k < 256 / n * n :=
  calc b * n + k < (b + 1) * n := by rw [Nat.succ_mul]; omega
    _ ≤ 256 / n * n := Nat.mul_le_mul_right n hb

theorem schedule_length_le (n : Nat) : 256 / n * n ≤ 256 := Nat.div_mul_le_self 256 n

theorem blockOf_eq_ofFn (seq : Vector Byte 256) {n b : Nat} (hb : b < 256 / n) :
    blockOf seq n b = List.ofFn (blockEntries seq n b) := by
  have hfits : b * n + n ≤ 256 := by
    have hlast := Nat.mul_le_mul_right n (Nat.succ_le_of_lt hb)
    have := schedule_length_le n
    rw [Nat.succ_mul] at hlast
    omega
  apply List.ext_getElem
  · simp [blockOf]
    omega
  · intro k hk _
    have hk : k < n := by simp [blockOf] at hk; omega
    simp [blockOf, blockEntries, scheduleEntry_of_lt seq (show b * n + k < 256 by omega)]

theorem head?_ofFn {n : Nat} (f : Fin n → Nat) (h : 0 < n) : (List.ofFn f).head? = some (f ⟨0, h⟩) := by
  obtain ⟨m, rfl⟩ := Nat.exists_eq_add_of_lt h
  simp [List.ofFn_succ]

theorem wellFormedSchedule_iff {seq : Vector Byte 256} {n : Nat} (hn : 0 < n) :
    WellFormedSchedule seq n ↔
      (∀ b, b < 256 / n → scheduleEntry seq (b * n) = n / 2 ∧
        (List.ofFn (blockEntries seq n b)).Perm (List.range n)) ∧
      ∀ i, 256 / n * n ≤ i → scheduleEntry seq i = 0 := by
  have hblocks : ∀ b, b < 256 / n → ((blockOf seq n b).head? = some (n / 2) ↔ scheduleEntry seq (b * n) = n / 2) := by
    intro b hb
    rw [blockOf_eq_ofFn seq hb, head?_ofFn _ hn]
    simp [blockEntries]
  have htail : (∀ i, (h : i < 256) → 256 / n * n ≤ i → seq[i] = 0) ↔
      ∀ i, 256 / n * n ≤ i → scheduleEntry seq i = 0 := by
    refine forall_congr' fun i => ?_
    by_cases h : i < 256
    · simp only [h, forall_true_left, scheduleEntry_of_lt seq h]
      exact imp_congr_right fun _ => BitVec.toNat_eq
    · simp [h, scheduleEntry_of_ge seq (Nat.le_of_not_lt h)]
  unfold WellFormedSchedule
  rw [htail]
  refine and_congr_left' (forall₂_congr fun b hb => ?_)
  rw [hblocks b hb, blockOf_eq_ofFn seq hb]

theorem scheduleEntry_swap (seq : Vector Byte 256) {i j : Nat} (hi : i < 256) (hj : j < 256) (k : Nat) :
    scheduleEntry (seq.swapIfInBounds i j) k = scheduleEntry seq (Equiv.swap i j k) := by
  by_cases hk : k < 256
  · have hswap : seq.swapIfInBounds i j = seq.swap i j hi hj := by
      simp [Vector.swapIfInBounds, Array.swapIfInBounds, Vector.swap, hi, hj]
    rw [scheduleEntry_of_lt _ hk, hswap, Vector.getElem_swap, Equiv.swap_apply_def]
    split
    · rw [scheduleEntry_of_lt _ hj]
    · split
      · rw [scheduleEntry_of_lt _ hi]
      · rw [scheduleEntry_of_lt _ hk]
  · rw [Equiv.swap_apply_of_ne_of_ne (by omega) (by omega), scheduleEntry_of_ge _ (by omega),
      scheduleEntry_of_ge _ (by omega)]

/-- Positions of different blocks differ. -/
theorem block_position_inj {n b b' : Nat} {p k : Nat} (hp : p < n) (hk : k < n) (h : b' * n + k = b * n + p) :
    b' = b ∧ k = p := by
  have hmod : ∀ c r, r < n → (c * n + r) % n = r := fun c r hr => by
    rw [Nat.mul_comm, Nat.mul_add_mod, Nat.mod_eq_of_lt hr]
  have hkp : k = p := by rw [← hmod b' k hk, h, hmod b p hp]
  exact ⟨Nat.eq_of_mul_eq_mul_right (Nat.zero_lt_of_lt hk) (by omega), hkp⟩

/-- A swap of two positions of a block permutes that block. -/
theorem blockEntries_swap_same (seq : Vector Byte 256) {n b : Nat} (hb : b < 256 / n) (p q : Fin n) :
    blockEntries (seq.swapIfInBounds (b * n + p.val) (b * n + q.val)) n b = blockEntries seq n b ∘ Equiv.swap p q := by
  have hlen := schedule_length_le n
  have hp := block_position_lt hb p.isLt
  have hq := block_position_lt hb q.isLt
  have hinj : Function.Injective fun k : Fin n => b * n + k.val := fun k l hkl => Fin.ext (Nat.add_left_cancel hkl)
  funext k
  exact (scheduleEntry_swap seq (by omega) (by omega) _).trans (congrArg _ (hinj.swap_apply p q k))

/-- A swap of two positions of a block shows at no other position. -/
theorem scheduleEntry_swap_of_ne (seq : Vector Byte 256) {n b i : Nat} (hb : b < 256 / n) {p q : Fin n}
    (hip : i ≠ b * n + p.val) (hiq : i ≠ b * n + q.val) :
    scheduleEntry (seq.swapIfInBounds (b * n + p.val) (b * n + q.val)) i = scheduleEntry seq i := by
  have hlen := schedule_length_le n
  have hp := block_position_lt hb p.isLt
  have hq := block_position_lt hb q.isLt
  rw [scheduleEntry_swap seq (by omega) (by omega), Equiv.swap_apply_of_ne_of_ne hip hiq]

/-- Two positions of one block, neither the block's start, may be exchanged (rule R180). -/
theorem WellFormedSchedule.swap {seq : Vector Byte 256} {n b : Nat} {p q : Fin n} (h : WellFormedSchedule seq n)
    (hb : b < 256 / n) (hp : p.val ≠ 0) (hq : q.val ≠ 0) :
    WellFormedSchedule (seq.swapIfInBounds (b * n + p.val) (b * n + q.val)) n := by
  have hn : 0 < n := p.pos
  rw [wellFormedSchedule_iff hn] at h ⊢
  obtain ⟨hblocks, htail⟩ := h
  refine ⟨fun b' hb' => ?_, fun i hle => ?_⟩
  · obtain ⟨hsync, hperm⟩ := hblocks b' hb'
    constructor
    · rw [scheduleEntry_swap_of_ne seq hb, hsync]
      · exact fun he => hp (block_position_inj p.isLt hn he).2.symm
      · exact fun he => hq (block_position_inj q.isLt hn he).2.symm
    · by_cases hbb : b' = b
      · subst hbb
        rw [blockEntries_swap_same seq hb]
        exact ((Equiv.swap p q).ofFn_comp_perm _).trans hperm
      · have hsame : blockEntries (seq.swapIfInBounds (b * n + p.val) (b * n + q.val)) n b' =
            blockEntries seq n b' :=
          funext fun k => scheduleEntry_swap_of_ne seq hb (fun he => hbb (block_position_inj p.isLt k.isLt he).1)
            (fun he => hbb (block_position_inj q.isLt k.isLt he).1)
        rwa [hsame]
  · have hpos := block_position_lt hb p.isLt
    have hqos := block_position_lt hb q.isLt
    rw [scheduleEntry_swap_of_ne seq hb (by omega) (by omega), htail i hle]

/-- The fill puts the sync channel at the start of every block, channel 0 in the sync channel's own place, and every
other channel in its own (rule R174). -/
theorem scheduleEntry_seqFill {n b : Nat} (h256 : n ≤ 256) (hb : b < 256 / n) (k : Fin n) :
    scheduleEntry (seqFill n) (b * n + k.val) = Equiv.swap 0 (n / 2) k.val := by
  have hk := k.isLt
  have hpos : b * n + k.val < seqCount n := block_position_lt hb hk
  have hmod : (b * n + k.val) % n = k.val := by rw [Nat.mul_comm, Nat.mul_add_mod, Nat.mod_eq_of_lt hk]
  have hlt := Nat.lt_of_lt_of_le hpos (seqCount_le n)
  rw [scheduleEntry_of_lt _ hlt, seqFill_getElem n _ hlt, if_pos hpos, hmod, Equiv.swap_apply_def, syncChan]
  split
  · rw [BitVec.toNat_ofNat, Nat.mod_eq_of_lt (by omega)]
  · split
    · rfl
    · rw [BitVec.toNat_ofNat, Nat.mod_eq_of_lt (by omega)]

theorem seqFill_wellFormed {n : Nat} (hn : 0 < n) (h256 : n ≤ 256) : WellFormedSchedule (seqFill n) n := by
  rw [wellFormedSchedule_iff hn]
  refine ⟨fun b hb => ⟨?_, ?_⟩, fun i hle => ?_⟩
  · simpa using scheduleEntry_seqFill h256 hb ⟨0, hn⟩
  · have hcomp : blockEntries (seqFill n) n b = Fin.val ∘ Equiv.swap (⟨0, hn⟩ : Fin n) ⟨n / 2, by omega⟩ :=
      funext fun k => (scheduleEntry_seqFill h256 hb k).trans (Fin.val_injective.swap_apply ⟨0, hn⟩ ⟨n / 2, by omega⟩ k)
    rw [hcomp, ← List.map_coe_finRange_eq_range, ← List.ofFn_eq_map]
    exact (Equiv.swap _ _).ofFn_comp_perm _
  · by_cases hi : i < 256
    · rw [scheduleEntry_of_lt _ hi, seqFill_getElem n i hi, if_neg (show ¬i < seqCount n from Nat.not_lt.mpr hle)]
      rfl
    · exact scheduleEntry_of_ge _ (Nat.le_of_not_lt hi)

theorem swapStep_keeps_wellFormed {n i : Nat} (hn : 2 ≤ n) (hi : i < seqCount n) {st : Vector Byte 256 × BitVec 31}
    (h : WellFormedSchedule st.1 n) : WellFormedSchedule (swapStep n st i).1 n := by
  by_cases hstart : i % n = 0
  · rwa [swapStep_of_block_start hstart]
  · obtain ⟨r, hr1, hrn, hswap⟩ := swapStep_of_inside hn hstart st
    have hblock : i / n < 256 / n := Nat.div_lt_of_lt_mul (by rwa [Nat.mul_comm])
    rw [hswap]
    have := h.swap (p := ⟨i % n, Nat.mod_lt i (by omega)⟩) (q := ⟨r, hrn⟩) hblock hstart (Nat.ne_of_gt hr1)
    rwa [Nat.div_add_mod'] at this

/-- Every build of a channel count of the domain gives a well-formed schedule (rule R180). -/
theorem buildSeq_wellFormed (seed : BitVec 32) {n : Nat} (hn : 2 ≤ n) (h256 : n ≤ 256) :
    WellFormedSchedule (buildSeq seed n) n :=
  List.foldlRecOn (motive := fun st : Vector Byte 256 × BitVec 31 => WellFormedSchedule st.1 n) _ _
    (seqFill_wellFormed (by omega) h256)
    fun _ hst _ hi => swapStep_keeps_wellFormed hn (List.mem_range.mp hi) hst

/-- In a well-formed schedule the sync channel stands at the block starts and nowhere else (rule R180). -/
theorem WellFormedSchedule.entry_eq_sync_iff {seq : Vector Byte 256} {n i : Nat} (h : WellFormedSchedule seq n)
    (hn : 0 < n) (hi : i < 256 / n * n) : scheduleEntry seq i = n / 2 ↔ i % n = 0 := by
  obtain ⟨hblocks, -⟩ := (wellFormedSchedule_iff hn).mp h
  obtain ⟨hsync, hperm⟩ := hblocks (i / n) (Nat.div_lt_of_lt_mul (by rwa [Nat.mul_comm]))
  have hinj := List.nodup_ofFn.mp (hperm.nodup_iff.mpr List.nodup_range)
  have hat := hinj.eq_iff (a := ⟨i % n, Nat.mod_lt i hn⟩) (b := ⟨0, hn⟩)
  simpa [blockEntries, Nat.div_add_mod', hsync] using hat

end Sys2Proof.Machine
end

section
/-! What a command can do, said once: it is refused and writes the error registers alone, or it is accepted with the
effect of its own rule. From it the frame of every accepted command (rule R144). -/

namespace Sys2Proof.Machine

/-- The command was refused: a nonzero code in the error registers and nothing else (rule R281). -/
def State.RefusedTo (s t : State) : Prop := ∃ c, c ≠ .ok ∧ t = s.refuse c

/-- What an accepted command makes of a state, with what its checks have established (rule R140). The values that
`CRC.CALC` and `OTA.VALIDATE` compute are left open. -/
inductive Accepted (s : State) : Instr → State → Prop where
  | sysNop : Accepted s .sysNop s.accept
  | sysReset : Accepted s .sysReset s.blockReset
  | crcInit (hwidth : crcWidthLegal s.crcBits.toNat = true) (hpoly : s.crcPoly.toNat < 2 ^ s.crcBits.toNat) :
    Accepted s .crcInit
      ({ s with
          tab0 := crcTable s.crcBits.toNat s.crcPoly, crc0Cfg := ⟨s.crcBits, s.crcPoly⟩
          crc0Valid := true } : State).accept
  | crcCalc (b : Bank) (v : Hword) : Accepted s (.crcCalc b) ({ s with crcResult := v } : State).accept
  | fhssBuild (hdomain : s.fhssDomainLegal = true) :
    Accepted s .fhssBuild
      ({ s with
          seq := buildSeq s.fhssSeed s.fhssFreqCount.toNat
          fhssSeqCount := BitVec.ofNat 9 (seqCount s.fhssFreqCount.toNat)
          fhssActCount := s.fhssFreqCount
          fhssSync := BitVec.ofNat 8 (syncChan s.fhssFreqCount.toNat)
          fhssActStart := s.fhssFreqStart
          fhssSpread := freqSpread s.fhssFreqStart s.fhssFreqStop s.fhssFreqCount.toNat
          fhssPtr := 0, fhssValid := true } : State).accept
  | fhssHop (hvalid : s.fhssValid = true) :
    Accepted s .fhssHop
      ({ s with fhssPtr := BitVec.ofNat 8 ((s.fhssPtr.toNat + 1) % s.fhssSeqCount.toNat) } : State).accept
  | otaConfig (n : Nat) (m : Mode) : Accepted s (.otaConfig n) (s.configured m).accept
  | otaPack : Accepted s .otaPack s.built.withSeal.accept
  | otaSeal : Accepted s .otaSeal s.withSeal.accept
  | otaValidate (b : Bool) : Accepted s .otaValidate ({ s with crcOk := b } : State).accept
  | otaDrop (b : Bool) (hdrop : ¬(s.crcMatches = true ∧ s.pktIsRc = true)) :
    Accepted s .otaUnpack ({ s with crcOk := b, rxUpdated := false } : State).accept
  | otaUnpack (hcrc : s.crcMatches = true) (hrc : s.pktIsRc = true) :
    Accepted s .otaUnpack ({ s.unpacked with crcOk := true, rxUpdated := true } : State).accept

/-- One check of a command: it refuses, or the command goes on with the check passed. -/
theorem refusedTo_or_of_check {s u : State} {p : Prop} [Decidable p] {c : Code} {P : State → Prop} (hc : c ≠ .ok)
    (hpass : ¬p → s.RefusedTo u ∨ P u) :
    s.RefusedTo (if p then s.refuse c else u) ∨ P (if p then s.refuse c else u) := by
  split
  · exact .inl ⟨c, hc, rfl⟩
  · exact hpass ‹_›

/-- The answer of an unpack that its checks have passed: dropped, not decoded, or decoded (rules R255 to R257). -/
theorem accepted_otaUnpack (s : State) :
    Accepted s .otaUnpack
      (if !s.crcMatches then ({ s with crcOk := false, rxUpdated := false } : State).accept
      else if !s.pktIsRc then ({ s with crcOk := true, rxUpdated := false } : State).accept
      else ({ s.unpacked with crcOk := true, rxUpdated := true } : State).accept) := by
  split
  · exact .otaDrop false (by simp_all)
  · split
    · exact .otaDrop true (by simp_all)
    · exact .otaUnpack (by simp_all) (by simp_all)

/-- Every command is refused or accepted (rules R140, R281). -/
theorem exec_cases {i : Instr} {s t : State} (h : exec i s = .next t) : s.RefusedTo t ∨ Accepted s i t := by
  cases i <;> injection h with h <;> subst h
  case sysNop => exact .inr .sysNop
  case sysReset => exact .inr .sysReset
  case crcInit =>
    exact refusedTo_or_of_check nofun fun hwidth => refusedTo_or_of_check nofun fun hpoly =>
      .inr (.crcInit (by simpa using hwidth) (Nat.lt_of_not_le hpoly))
  case crcCalc b =>
    exact refusedTo_or_of_check nofun fun _ => refusedTo_or_of_check nofun fun _ => .inr (.crcCalc b _)
  case fhssBuild =>
    exact refusedTo_or_of_check nofun fun _ => refusedTo_or_of_check nofun fun hdomain =>
      .inr (.fhssBuild (by simpa using hdomain))
  case fhssHop => exact refusedTo_or_of_check nofun fun hvalid => .inr (.fhssHop (by simpa using hvalid))
  case otaConfig n =>
    refine refusedTo_or_of_check nofun fun _ => ?_
    split
    · exact .inl ⟨.eOtaMode, nofun, rfl⟩
    · exact .inr (.otaConfig n _)
  case otaPack => exact refusedTo_or_of_check nofun fun _ => refusedTo_or_of_check nofun fun _ => .inr .otaPack
  case otaSeal => exact refusedTo_or_of_check nofun fun _ => refusedTo_or_of_check nofun fun _ => .inr .otaSeal
  case otaValidate =>
    exact refusedTo_or_of_check nofun fun _ => refusedTo_or_of_check nofun fun _ => .inr (.otaValidate _)
  case otaUnpack =>
    exact refusedTo_or_of_check nofun fun _ => refusedTo_or_of_check nofun fun _ => .inr (accepted_otaUnpack s)

/-- A command that leaves `RESULT` at 0 was accepted (rules R140, R281). -/
theorem accepted_of_exec {i : Instr} {s t : State} (hok : t.result = .ok) (h : exec i s = .next t) :
    Accepted s i t := by
  rcases exec_cases h with ⟨c, hc, rfl⟩ | hacc
  · exact absurd hok hc
  · exact hacc

/-! ## Building, sealing and unpacking a packet: what stays -/

/-- Building a packet writes `PKT` and the cursor (rule R203). -/
theorem State.built_frame (s : State) :
    s.built = { s with pkt := s.built.pkt, swIdx := s.built.swIdx, auxHalf := s.built.auxHalf } := by
  unfold State.built
  split <;> rfl

/-- Unpacking writes the receive registers (rule R259). -/
theorem State.unpacked_frame (s : State) :
    s.unpacked = { s with
      rxch := s.unpacked.rxch, rxArmed := s.unpacked.rxArmed, rxTlm := s.unpacked.rxTlm
      rxHighAux := s.unpacked.rxHighAux, otaRxPower := s.unpacked.otaRxPower } := by
  unfold State.unpacked
  split <;> rfl

theorem State.built_otaMode (s : State) : s.built.otaMode = s.otaMode := by rw [s.built_frame]

/-- The CRC field of a compact packet stands in its bytes 0 and 7 (rule R229). -/
theorem State.sealedPkt_getElem_of_compact {s : State} (h : s.otaMode.isCompact = true) {k : Nat} (hk : k < 13)
    (h0 : k ≠ 0) (h7 : k ≠ 7) : s.sealedPkt[k] = s.pkt[k] := by
  simp only [State.sealedPkt_of_compact h, Vector.getElem_set, h0.symm, h7.symm, if_false]

/-- The CRC field of an extended packet is its bytes 11 and 12 (rule R229). -/
theorem State.sealedPkt_getElem_of_extended {s : State} (h : s.otaMode.isCompact = false) {k : Nat} (hk : k < 13)
    (h11 : k ≠ 11) (h12 : k ≠ 12) : s.sealedPkt[k] = s.pkt[k] := by
  simp only [State.sealedPkt_of_extended h, Vector.getElem_set, h11.symm, h12.symm, if_false]

/-- Sealing a compact packet keeps the type bits of its header (rule R229). -/
theorem State.sealedPkt_type_of_compact {s : State} (h : s.otaMode.isCompact = true) :
    s.sealedPkt[0].extractLsb' 0 2 = s.pkt[0].extractLsb' 0 2 := by
  rw [State.sealedPkt_of_compact h, Vector.getElem_set_ne _ _ (by decide), Vector.getElem_set_self]
  exact BitVec.extractLsb'_append_eq_right

theorem State.compactPkt_getElem (s : State) (sw : BitVec 7) {k : Nat} (hk : k < 13) (h8 : 8 ≤ k) :
    (s.compactPkt sw)[k] = s.pkt[k] := by
  interval_cases k <;> rfl

/-- Nothing past the end of the packet is built (rule R203). -/
theorem State.built_pkt_getElem {s : State} {k : Nat} (hk : k < 13) (hlen : s.otaMode.pktLen ≤ k) :
    s.built.pkt[k] = s.pkt[k] := by
  unfold State.built
  split <;> rename_i hm <;> rw [hm] at hlen
  · exact s.compactPkt_getElem _ hk hlen
  · exact s.compactPkt_getElem _ hk hlen
  · exact absurd hlen (Nat.not_le.mpr hk)
  · exact absurd hlen (Nat.not_le.mpr hk)

/-- `OTA.PACK` leaves the bytes past the end of the packet (rule R203). -/
theorem State.built_sealedPkt_getElem {s : State} {k : Nat} (hk : k < 13) (hlen : s.otaMode.pktLen ≤ k) :
    s.built.sealedPkt[k] = s.pkt[k] := by
  rw [← State.built_pkt_getElem hk hlen]
  rw [← s.built_otaMode] at hlen
  cases hc : s.built.otaMode.isCompact with
  | true =>
    have : 8 ≤ k := by simpa [Mode.pktLen, hc, Config.lenCompact] using hlen
    exact State.sealedPkt_getElem_of_compact hc hk (by omega) (by omega)
  | false =>
    have : 13 ≤ k := by simpa [Mode.pktLen, hc, Config.lenExtended] using hlen
    omega

/-! ## The frame of each accepted command -/

theorem otaPack_frame {s t : State} (h : Accepted s .otaPack t) :
    t = { s with result := .ok, pkt := t.pkt, swIdx := t.swIdx, auxHalf := t.auxHalf } ∧
      ∀ k : Fin 13, s.otaMode.pktLen ≤ k.val → t.pkt[k] = s.pkt[k] := by
  cases h
  refine ⟨?_, fun k hlen => State.built_sealedPkt_getElem k.isLt hlen⟩
  rw [State.accept_eq, State.withSeal, s.built_frame]

theorem otaSeal_frame {s t : State} (h : Accepted s .otaSeal t) :
    t = { s with result := .ok, pkt := t.pkt } ∧
      (s.otaMode.isCompact = true → t.pkt[0].extractLsb' 0 2 = s.pkt[0].extractLsb' 0 2 ∧
        ∀ k : Fin 13, k.val ≠ 0 → k.val ≠ 7 → t.pkt[k] = s.pkt[k]) ∧
      (s.otaMode.isCompact = false → ∀ k : Fin 13, k.val ≠ 11 → k.val ≠ 12 → t.pkt[k] = s.pkt[k]) := by
  cases h
  exact ⟨rfl,
    fun hc => ⟨State.sealedPkt_type_of_compact hc, fun k => State.sealedPkt_getElem_of_compact hc k.isLt⟩,
    fun hc k => State.sealedPkt_getElem_of_extended hc k.isLt⟩

theorem otaUnpack_frame {s t : State} (h : Accepted s .otaUnpack t) :
    t = { s with
      result := .ok, crcOk := t.crcOk, rxUpdated := t.rxUpdated, rxch := t.rxch, rxArmed := t.rxArmed
      rxTlm := t.rxTlm, rxHighAux := t.rxHighAux, otaRxPower := t.otaRxPower } ∧
      (¬(s.pktCrc = s.storedCrc ∧ s.pkt[0].extractLsb' 0 2 = 0b00#2) →
        t = { s with result := .ok, crcOk := t.crcOk, rxUpdated := t.rxUpdated }) := by
  cases h with
  | otaDrop b _ => exact ⟨rfl, fun _ => rfl⟩
  | otaUnpack hcrc hrc =>
    refine ⟨?_, fun hdrop => absurd ⟨s.crcMatches_iff.mp hcrc, s.pktIsRc_iff.mp hrc⟩ hdrop⟩
    rw [State.accept_eq, s.unpacked_frame]

/-- Settles O22: each accepted command by its own effect. -/
theorem commandWritesOnlyItsColumn : Obligations.CommandWritesOnlyItsColumn := by
  intro s t hok
  have hacc : ∀ {i}, exec i s = .next t → Accepted s i t := accepted_of_exec hok
  refine ⟨fun h => ?nop, fun h => ?init, fun b h => ?fold, fun h => ?build, fun h => ?hop, fun m h => ?config,
    fun h => otaPack_frame (hacc h), fun h => otaSeal_frame (hacc h), fun h => ?validate,
    fun h => otaUnpack_frame (hacc h)⟩
  case nop => cases hacc h; rfl
  case init => cases hacc h; rfl
  case fold => cases hacc h; rfl
  case build => cases hacc h; rfl
  case hop => cases hacc h; rfl
  case config => cases hacc h; rfl
  case validate => cases hacc h; rfl

end Sys2Proof.Machine
end

section
/-! The address map: every offset leads to at most one location, the one whose offset it is. -/

namespace Sys2Proof.Machine

theorem elementAt_element {base n : Nat} (hb : base % 4 = 0) (i : Fin n) :
    elementAt base n (base + 4 * i.val) = some i :=
  (elementAt_eq_some_iff hb i).mpr rfl

/-- The offset of a location leads back to it: the registers lie below the arrays, and the seven array windows do not
overlap (rules R33, R76). -/
theorem locate_offset (l : Loc) : locate l.offset = some l := by
  unfold locate
  cases l with
  | reg r => simp [Loc.offset, regAt_offset]
  | tab b i =>
    cases b <;>
      simp (disch := omega) [Loc.offset, tabBase, regAt_eq_none_of_le, elementAt_element, elementAt_eq_none_of]
  | _ => simp (disch := omega) [Loc.offset, regAt_eq_none_of_le, elementAt_element, elementAt_eq_none_of]

/-- An offset leads only to the location whose offset it is (rules R33, R76). -/
theorem offset_of_locate {l : Loc} {o : Nat} (h : locate o = some l) : l.offset = o := by
  unfold locate at h
  simp only [Option.orElse_eq_orElse, Option.orElse_eq_or, Option.or_eq_some_iff, Option.map_eq_some_iff] at h
  rcases h with ⟨r, hr, rfl⟩ | ⟨-, h⟩
  · exact offset_of_regAt hr
  have helement : ∀ {base n : Nat} {i : Fin n}, base % 4 = 0 → elementAt base n o = some i → base + 4 * i.val = o :=
    fun hb hi => ((elementAt_eq_some_iff hb _).mp hi).symm
  rcases h with ⟨i, hi, rfl⟩ | ⟨-, ⟨i, hi, rfl⟩ | ⟨-, ⟨i, hi, rfl⟩ | ⟨-, ⟨i, hi, rfl⟩ | ⟨-, ⟨i, hi, rfl⟩ |
    ⟨-, ⟨i, hi, rfl⟩ | ⟨-, i, hi, rfl⟩⟩⟩⟩⟩⟩ <;> exact helement rfl hi

theorem locate_eq_some_iff {l : Loc} {o : Nat} : locate o = some l ↔ l.offset = o :=
  ⟨offset_of_locate, fun h => h ▸ locate_offset l⟩

theorem target_offset (l : Loc) : target l.offset 4 = .ok l := target_of_locate l.offset_aligned (locate_offset l)

/-- Settles O10: the map and its inverse, then the two tables of the spec as they stand in the model. -/
theorem addressMapOneToOne : Obligations.AddressMapOneToOne :=
  ⟨fun _ _ => locate_eq_some_iff, by decide, fun _ => rfl, fun _ => rfl, fun _ => rfl, fun _ => rfl, fun _ => rfl,
    fun _ => rfl, fun _ => rfl⟩

end Sys2Proof.Machine
end

section
/-! What a host read answers and what a host write stores, location by location (rules R84, R85). -/

namespace Sys2Proof.Machine

/-! ## Steps of the port -/

/-- Settles O4: a write of a command word goes to the decoder. -/
theorem stepRunsDecodedCommand : Obligations.StepRunsDecodedCommand := by
  intro s w rest i hp hdec
  calc step s = access (commandWrite w) { s with pending := rest } := step_of_pending hp
    _ = runCommand w { s with pending := rest } := access_commandWrite w _
    _ = exec i { s with pending := rest } := runCommand_of_decode hdec _

/-- Settles O6. -/
theorem idleStepKeepsState : Obligations.IdleStepKeepsState := fun _ => step_of_idle

/-- What a read answers does not depend on the port. -/
theorem State.readLoc_withPending (s : State) (rest : List Access) (l : Loc) :
    ({ s with pending := rest } : State).readLoc l = s.readLoc l := by
  cases l with
  | reg r => cases r <;> rfl
  | _ => rfl

/-- A read of a location answers its value and takes the access off the port (rule R84). -/
theorem step_read {s : State} {l : Loc} {rest : List Access} (hp : s.pending = .read l.offset 4 :: rest) :
    step s = .next { s with pending := rest, answer := some (s.readLoc l) } := by
  rw [step_of_pending hp, access_read (target_offset l), s.readLoc_withPending]

/-- A write of a location other than `CMD` stores (rule R85). -/
theorem step_write {s : State} {l : Loc} {v : Word} {rest : List Access} (hc : l ≠ .reg .cmd)
    (hp : s.pending = .write l.offset 4 v :: rest) :
    step s = .next (({ s with pending := rest } : State).writeLoc v l) := by
  rw [step_of_pending hp, access_write (target_offset l) hc]

/-! ## What a read answers -/

theorem zext_toNat {w : Nat} (hw : w ≤ 32) (v : BitVec w) : (zext v).toNat = v.toNat :=
  BitVec.toNat_setWidth_of_le hw

theorem zext_inj {w : Nat} (hw : w ≤ 32) {a b : BitVec w} : zext a = zext b ↔ a = b := by
  rw [BitVec.toNat_eq, zext_toNat hw, zext_toNat hw, BitVec.toNat_eq]

theorem zext_getLsbD {w : Nat} (hw : w ≤ 32) (v : BitVec w) (i : Nat) : (zext v).getLsbD i = v.getLsbD i := by
  by_cases h : i < 32
  · simp [zext, h]
  · rw [BitVec.getLsbD_of_ge _ i (by omega), BitVec.getLsbD_of_ge _ i (by omega)]

/-- Settles O11: the answer of a read step, and the value of every plain register and array element. -/
theorem readAnswersAndChangesNothing : Obligations.ReadAnswersAndChangesNothing := by
  refine ⟨fun s l rest => step_read, fun s => ⟨rfl, ?_⟩⟩
  refine ⟨?_, ?_, ?_, ?_, ?_, ?_, ?_, ?_, ?_, ?_, ?_, ?_, ?_, ?_, ?_, ?_, ?_, ?_, ?_, ?_, ?_, fun i => ?_, fun i => ?_,
    fun i => ?_, fun i => ?_, fun i => ?_, fun i => ?_, fun i => ?_⟩ <;> exact zext_toNat (by decide) _

/-! ### Registers with fields -/

theorem append_toNat {m n : Nat} (x : BitVec m) (y : BitVec n) : (x ++ y).toNat = x.toNat * 2 ^ n + y.toNat := by
  rw [BitVec.toNat_append, ← Nat.shiftLeft_add_eq_or_of_lt y.isLt, Nat.shiftLeft_eq]

theorem BankCfg.word_toNat (c : BankCfg) : c.word.toNat = 2 ^ 16 * c.poly.toNat + c.width.toNat := by
  simp only [BankCfg.word, append_toNat, BitVec.toNat_ofNat]
  omega

theorem State.status_bits (s : State) :
    s.status.getLsbD 0 = false ∧ s.status.getLsbD 1 = s.err ∧ s.status.getLsbD 2 = s.crcOk ∧
      s.status.getLsbD 3 = s.rxUpdated ∧ s.status.getLsbD 4 = s.crc0Valid ∧ s.status.getLsbD 5 = s.crc1Valid ∧
      s.status.getLsbD 6 = s.fhssValid ∧ s.status.getLsbD 7 = s.otaValid ∧ s.status.getLsbD 8 = s.onSync := by
  simp only [State.status, State.busy, BitVec.getLsbD_append]
  simp

theorem State.onSync_iff (s : State) :
    s.onSync = true ↔ s.fhssValid = true ∧ s.seq[s.fhssPtr.toNat]'s.fhssPtr.isLt = s.fhssSync := by
  simp [State.onSync, State.fhssChan]

theorem State.txFlags_toNat (s : State) : s.txFlags.toNat = 2 * s.txTlm.toNat + s.txArmed.toNat := by
  simp only [State.txFlags, append_toNat, BitVec.toNat_ofBool]
  omega

theorem State.rxFlags_toNat (s : State) :
    s.rxFlags.toNat = 4 * s.rxHighAux.toNat + 2 * s.rxTlm.toNat + s.rxArmed.toNat := by
  simp only [State.rxFlags, append_toNat, BitVec.toNat_ofBool]
  omega

theorem State.otaCursor_toNat (s : State) : s.otaCursor.toNat = 2 ^ 8 * s.auxHalf.toNat + s.swIdx.toNat := by
  simp only [State.otaCursor, append_toNat, BitVec.toNat_ofBool, BitVec.toNat_ofNat]
  omega

theorem State.fhssFreq_toNat (s : State) :
    s.fhssFreq.toNat = (s.fhssActStart.toNat + s.fhssSpread.toNat * s.fhssChan.toNat / 256) % 2 ^ 32 :=
  BitVec.toNat_ofNat ..

theorem State.otaPktLen_toNat (s : State) :
    s.otaPktLen.toNat = if s.otaValid = false then 0
      else if s.otaMode = .compactIndexed ∨ s.otaMode = .compactWide then 8 else 13 := by
  unfold State.otaPktLen
  cases s.otaValid with
  | false => rfl
  | true => cases s.otaMode <;> rfl

theorem zext_num_toNat {a b : Code} {n : Nat} (hnum : b.num.toNat = n) (h : a = b) : (zext a.num).toNat = n := by
  rw [h, zext_toNat (by decide), hnum]

theorem zext_code_toNat {a b : Mode} {n : Nat} (hcode : b.code.toNat = n) (h : a = b) : (zext a.code).toNat = n := by
  rw [h, zext_toNat (by decide), hcode]

theorem State.readReg_hopSync (s : State) :
    (s.fhssHopInterval.toNat = 0 → (s.readReg .fhssHopSync).toNat = 0) ∧
      (s.fhssHopInterval.toNat ≠ 0 →
        (s.readReg .fhssHopSync).toNat = (s.otaNonce.toNat % s.fhssHopInterval.toNat + 1) % 2 ^ 7) ∧
      (1 ≤ s.fhssHopInterval.toNat → s.fhssHopInterval.toNat ≤ 127 →
        (s.readReg .fhssHopSync).toNat = s.otaNonce.toNat % s.fhssHopInterval.toNat + 1) := by
  have hread : (s.readReg .fhssHopSync).toNat = s.hopSync.toNat := zext_toNat (by decide) _
  have hzero : s.fhssHopInterval = 0 ↔ s.fhssHopInterval.toNat = 0 := BitVec.toNat_eq
  rw [hread]
  refine ⟨fun h => ?_, fun h => ?_, fun h1 h127 => ?_⟩
  · rw [State.hopSync_of_zero (hzero.mpr h)]
    rfl
  · exact State.hopSync_toNat (mt hzero.mp h)
  · exact State.hopSync_toNat_of_lt (mt hzero.mp (by omega)) (by omega)

/-- Settles O14: register by register, through the value of its fields. -/
theorem statusBitPlaces : Obligations.StatusBitPlaces := by
  intro s
  obtain ⟨h0, h1, h2, h3, h4, h5, h6, h7, h8⟩ := s.status_bits
  have hbit : ∀ i, (s.readLoc (.reg .status)).getLsbD i = s.status.getLsbD i := zext_getLsbD (by decide) _
  have hchan : (s.readLoc (.reg .fhssChan)).toNat = s.fhssChan.toNat := zext_toNat (by decide) _
  refine ⟨(hbit 0).trans h0, (hbit 1).trans h1, (hbit 2).trans h2, (hbit 3).trans h3, (hbit 4).trans h4,
    (hbit 5).trans h5, (hbit 6).trans h6, (hbit 7).trans h7, ?_, ?_, ?_, ?_, ?_,
    s.crc0Cfg.word_toNat, s.crc1Cfg.word_toNat, ?_, ?_, ?_, hchan, ?_, ?_, s.readReg_hopSync⟩
  · rw [hbit, h8, s.onSync_iff]
  · exact (zext_toNat (by decide) s.status).trans_lt s.status.isLt
  · exact forall₂_imp (fun p _ (hnum : p.1.num.toNat = p.2) => ⟨zext_num_toNat hnum, zext_num_toNat hnum⟩) (by decide)
  · exact forall₂_imp (fun p _ (hcode : p.1.code.toNat = p.2) => zext_code_toNat hcode) (by decide)
  · exact (zext_toNat (by decide) _).trans (BitVec.toNat_ofBool _)
  · exact (zext_toNat (by decide) _).trans s.txFlags_toNat
  · exact (zext_toNat (by decide) _).trans s.otaCursor_toNat
  · exact (zext_toNat (by decide) _).trans s.rxFlags_toNat
  · simp only [hchan]
    exact (zext_toNat (by decide) _).trans s.fhssFreq_toNat
  · exact (zext_toNat (by decide) _).trans s.otaPktLen_toNat

/-! ### Reads tell two blocks apart -/

/-- `STATUS` shows its seven stored flags (rule R26). -/
theorem flags_eq_of_status {s t : State} (h : s.status = t.status) :
    s.err = t.err ∧ s.crcOk = t.crcOk ∧ s.rxUpdated = t.rxUpdated ∧ s.crc0Valid = t.crc0Valid ∧
      s.crc1Valid = t.crc1Valid ∧ s.fhssValid = t.fhssValid ∧ s.otaValid = t.otaValid := by
  obtain ⟨-, s1, s2, s3, s4, s5, s6, s7, -⟩ := s.status_bits
  obtain ⟨-, t1, t2, t3, t4, t5, t6, t7, -⟩ := t.status_bits
  rw [← s1, ← s2, ← s3, ← s4, ← s5, ← s6, ← s7, h]
  exact ⟨t1, t2, t3, t4, t5, t6, t7⟩

theorem bankCfg_eq_of_word {a b : BankCfg} (h : a.word = b.word) : a = b := by
  have hnum := congrArg BitVec.toNat h
  rw [a.word_toNat, b.word_toNat] at hnum
  have ha := a.width.isLt
  have hb := b.width.isLt
  obtain ⟨aw, ap⟩ := a
  obtain ⟨bw, bp⟩ := b
  simp only [BankCfg.mk.injEq, BitVec.toNat_eq] at *
  omega

theorem bool_eq_of_toNat {a b : Bool} (h : a.toNat = b.toNat) : a = b :=
  BitVec.ofBool_eq_iff_eq.mp (BitVec.eq_of_toNat_eq (by simpa only [BitVec.toNat_ofBool] using h))

theorem txFlags_eq {s t : State} (h : s.txFlags = t.txFlags) : s.txArmed = t.txArmed ∧ s.txTlm = t.txTlm := by
  have hnum := congrArg BitVec.toNat h
  rw [s.txFlags_toNat, t.txFlags_toNat] at hnum
  have hs := s.txArmed.toNat_le
  have ht := t.txArmed.toNat_le
  exact ⟨bool_eq_of_toNat (by omega), bool_eq_of_toNat (by omega)⟩

theorem rxFlags_eq {s t : State} (h : s.rxFlags = t.rxFlags) :
    s.rxArmed = t.rxArmed ∧ s.rxTlm = t.rxTlm ∧ s.rxHighAux = t.rxHighAux := by
  have hnum := congrArg BitVec.toNat h
  rw [s.rxFlags_toNat, t.rxFlags_toNat] at hnum
  have hs0 := s.rxArmed.toNat_le
  have ht0 := t.rxArmed.toNat_le
  have hs1 := s.rxTlm.toNat_le
  have ht1 := t.rxTlm.toNat_le
  exact ⟨bool_eq_of_toNat (by omega), bool_eq_of_toNat (by omega), bool_eq_of_toNat (by omega)⟩

theorem otaCursor_eq {s t : State} (h : s.otaCursor = t.otaCursor) : s.swIdx = t.swIdx ∧ s.auxHalf = t.auxHalf := by
  have hnum := congrArg BitVec.toNat h
  rw [s.otaCursor_toNat, t.otaCursor_toNat] at hnum
  have hs := s.swIdx.isLt
  have ht := t.swIdx.isLt
  exact ⟨BitVec.eq_of_toNat_eq (by omega), bool_eq_of_toNat (by omega)⟩

/-- An array is known by the reads of its elements. -/
theorem vector_eq_of_zext {n w : Nat} (hw : w ≤ 32) {a b : Vector (BitVec w) n}
    (h : ∀ i : Fin n, zext a[i] = zext b[i]) : a = b :=
  Vector.ext fun i hi => (zext_inj hw).mp (h ⟨i, hi⟩)

/-- Settles O12: each register and array is known by its reads. -/
theorem readsDetermineTheState : Obligations.ReadsDetermineTheState := by
  refine ⟨fun _ => rfl, fun s t hread hpending hanswer => ?_⟩
  have hreg : ∀ r, s.readReg r = t.readReg r := fun r => hread (.reg r)
  have hplain : ∀ {w : Nat} {a b : BitVec w}, w ≤ 32 → zext a = zext b → a = b := fun hw => (zext_inj hw).mp
  obtain ⟨herr, hcrcOk, hrxUpdated, hcrc0, hcrc1, hfhss, hota⟩ := flags_eq_of_status (hplain (by decide) (hreg .status))
  obtain ⟨htxArmed, htxTlm⟩ := txFlags_eq (hplain (by decide) (hreg .otaTxFlags))
  obtain ⟨hrxArmed, hrxTlm, hrxHighAux⟩ := rxFlags_eq (hplain (by decide) (hreg .otaRxFlags))
  obtain ⟨hswIdx, hauxHalf⟩ := otaCursor_eq (hplain (by decide) (hreg .otaCursor))
  have hctrl := BitVec.ofBool_eq_iff_eq.mp (hplain (by decide) (hreg .ctrl))
  have hch := vector_eq_of_zext (by decide) fun i => hread (.ch i)
  have hrxch := vector_eq_of_zext (by decide) fun i => hread (.rxch i)
  have hpkt := vector_eq_of_zext (by decide) fun i => hread (.pkt i)
  have hbuf := vector_eq_of_zext (by decide) fun i => hread (.buf i)
  have hseq := vector_eq_of_zext (by decide) fun i => hread (.seq i)
  have htab0 : s.tab0 = t.tab0 := vector_eq_of_zext (by decide) fun i => hread (.tab .bank0 i)
  have htab1 : s.tab1 = t.tab1 := vector_eq_of_zext (by decide) fun i => hread (.tab .bank1 i)
  cases s
  cases t
  rw [State.mk.injEq]
  exact ⟨Code.num_injective (hplain (by decide) (hreg .result)),
    Code.num_injective (hplain (by decide) (hreg .firstErr)),
    herr, hcrcOk, hrxUpdated, hcrc0, hcrc1, hfhss, hota, hctrl,
    hplain (by decide) (hreg .crcBits), hplain (by decide) (hreg .crcPoly), hplain (by decide) (hreg .crcLen),
    hplain (by decide) (hreg .crcInitval), hplain (by decide) (hreg .crcResult), bankCfg_eq_of_word (hreg .crc0Cfg),
    bankCfg_eq_of_word (hreg .crc1Cfg), htab0, htab1, hbuf,
    hplain (by decide) (hreg .fhssSeed), hplain (by decide) (hreg .fhssFreqCount),
    hplain (by decide) (hreg .fhssFreqStart), hplain (by decide) (hreg .fhssFreqStop),
    hplain (by decide) (hreg .fhssHopInterval), hplain (by decide) (hreg .fhssSeqCount),
    hplain (by decide) (hreg .fhssActCount), hplain (by decide) (hreg .fhssSync), hplain (by decide) (hreg .fhssPtr),
    hplain (by decide) (hreg .fhssSpread), hplain (by decide) (hreg .fhssActStart), hseq,
    Mode.code_injective (hplain (by decide) (hreg .otaMode)), hplain (by decide) (hreg .otaNonce),
    hplain (by decide) (hreg .otaTlmDenom), hplain (by decide) (hreg .otaCrcInit), htxArmed, htxTlm,
    hplain (by decide) (hreg .otaUplinkPower), hswIdx, hauxHalf, hrxArmed, hrxTlm, hrxHighAux,
    hplain (by decide) (hreg .otaRxPower), hch, hrxch, hpkt, hpending, hanswer⟩

/-! ## What a write stores -/

theorem State.writeReg_port (s : State) (v : Word) (r : Reg) :
    (s.writeReg v r).pending = s.pending ∧ (s.writeReg v r).answer = s.answer := by
  cases r <;> exact ⟨rfl, rfl⟩

theorem State.writeLoc_port (s : State) (v : Word) (l : Loc) :
    (s.writeLoc v l).pending = s.pending ∧ (s.writeLoc v l).answer = s.answer := by
  cases l with
  | reg r => exact s.writeReg_port v r
  | _ => exact ⟨rfl, rfl⟩

/-- A write to a read-only location changes nothing (rule R85, clause (e)). -/
theorem State.writeLoc_of_readOnly {l : Loc} (h : l.readOnly = true) (s : State) (v : Word) : s.writeLoc v l = s := by
  cases l with
  | reg r => cases r <;> first | rfl | cases h
  | rxch i => rfl
  | tab b i => rfl
  | seq i => rfl
  | ch i => cases h
  | pkt i => cases h
  | buf i => cases h

theorem getLsbD_toNat (v : Word) (i : Nat) : (v.getLsbD i).toNat = v.toNat / 2 ^ i % 2 := by
  rw [← BitVec.testBit_toNat, Nat.toNat_testBit]

theorem zext_setWidth_toNat {w : Nat} (hw : w ≤ 32) (v : Word) : (zext (v.setWidth w)).toNat = v.toNat % 2 ^ w := by
  rw [zext_toNat hw, BitVec.toNat_setWidth]

/-- A register that narrows reads back the low bits of what was written (rule R85, clause (b)). -/
theorem State.readReg_writeReg {r : Reg} {w : Nat} (h : (Loc.reg r).narrowedTo = some w) (s : State) (v : Word) :
    ((s.writeReg v r).readReg r).toNat = v.toNat % 2 ^ w := by
  cases r <;> cases h
  case ctrl =>
    calc (zext (BitVec.ofBool (v.getLsbD 0))).toNat = (v.getLsbD 0).toNat := by
          rw [zext_toNat (by decide), BitVec.toNat_ofBool]
      _ = v.toNat % 2 ^ 1 := by rw [getLsbD_toNat]; simp
  case otaTxFlags =>
    have hflags := (s.writeReg v .otaTxFlags).txFlags_toNat
    have hlow : (v.getLsbD 0).toNat = v.toNat / 2 ^ 0 % 2 := getLsbD_toNat v 0
    have hhigh : (v.getLsbD 1).toNat = v.toNat / 2 ^ 1 % 2 := getLsbD_toNat v 1
    calc (zext (s.writeReg v .otaTxFlags).txFlags).toNat = 2 * (v.getLsbD 1).toNat + (v.getLsbD 0).toNat :=
          (zext_toNat (by decide) _).trans hflags
      _ = v.toNat % 2 ^ 2 := by omega
  all_goals exact zext_setWidth_toNat (by decide) v

/-- A location that narrows reads back the low bits of what was written (rule R85, clause (b)). -/
theorem State.readLoc_writeLoc {l : Loc} {w : Nat} (h : l.narrowedTo = some w) (s : State) (v : Word) :
    ((s.writeLoc v l).readLoc l).toNat = v.toNat % 2 ^ w := by
  cases l with
  | reg r => exact State.readReg_writeReg h s v
  | pkt i =>
    cases h
    simpa [State.readLoc, State.writeLoc] using zext_setWidth_toNat (w := 8) (by decide) v
  | buf i =>
    cases h
    simpa [State.readLoc, State.writeLoc] using zext_setWidth_toNat (w := 8) (by decide) v
  | _ => cases h

theorem saturate_toNat (v : Word) : (saturate v).toNat = min v.toNat 2047 := by
  rw [saturate, BitVec.toNat_ofNat, Nat.mod_eq_of_lt (by omega)]

/-- A channel saturates (rules R21, R85, clause (c)). -/
theorem State.readLoc_writeLoc_ch (s : State) (v : Word) (i : Fin 16) :
    ((s.writeLoc v (.ch i)).readLoc (.ch i)).toNat = min v.toNat 2047 := by
  rw [← saturate_toNat, ← zext_toNat (by decide) (saturate v)]
  simp [State.readLoc, State.writeLoc]

/-- A register write shows in no other register, but for the hop-sync value in those it is computed from. -/
theorem State.readReg_writeReg_of_ne {r r' : Reg} (hne : r' ≠ r) (hf : (Loc.reg r').follows (.reg r) = false)
    (s : State) (v : Word) : (s.writeReg v r).readReg r' = s.readReg r' := by
  cases r <;> cases r' <;> first | rfl | exact absurd rfl hne | cases hf

/-- A register write shows in no array. -/
theorem State.readLoc_writeReg {l : Loc} (hl : ∀ r, l ≠ .reg r) (s : State) (v : Word) (r : Reg) :
    (s.writeReg v r).readLoc l = s.readLoc l := by
  cases l with
  | reg r' => exact absurd rfl (hl r')
  | tab b i => cases b <;> cases r <;> rfl
  | _ => cases r <;> rfl

/-- A write to an element of an array shows in no register. -/
theorem State.readReg_writeLoc {l : Loc} (hl : ∀ r, l ≠ .reg r) (s : State) (v : Word) (r : Reg) :
    (s.writeLoc v l).readReg r = s.readReg r := by
  cases l with
  | reg r' => exact absurd rfl (hl r')
  | ch i => cases r <;> rfl
  | pkt i => cases r <;> rfl
  | buf i => cases r <;> rfl
  | _ => rfl

theorem vector_set_getElem_of_ne {α : Type} {n : Nat} (a : Vector α n) {i j : Fin n} (h : j ≠ i) (x : α) :
    (a.set i x)[j] = a[j] :=
  Vector.getElem_set_ne i.isLt j.isLt (fun hij => h (Fin.ext hij.symm))

/-- A write shows in no other location, but for the hop-sync value (rules R55, R85). -/
theorem State.readLoc_writeLoc_of_ne {l l' : Loc} (hne : l' ≠ l) (hf : l'.follows l = false) (s : State) (v : Word) :
    (s.writeLoc v l).readLoc l' = s.readLoc l' := by
  cases l' with
  | reg r' =>
    cases l with
    | reg r => exact State.readReg_writeReg_of_ne (fun h => hne (congrArg Loc.reg h)) hf s v
    | _ => exact State.readReg_writeLoc (by nofun) s v r'
  | ch j =>
    cases l with
    | reg r => exact State.readLoc_writeReg (by nofun) s v r
    | ch i => exact congrArg zext (vector_set_getElem_of_ne s.ch (fun h => hne (congrArg Loc.ch h)) _)
    | _ => rfl
  | pkt j =>
    cases l with
    | reg r => exact State.readLoc_writeReg (by nofun) s v r
    | pkt i => exact congrArg zext (vector_set_getElem_of_ne s.pkt (fun h => hne (congrArg Loc.pkt h)) _)
    | _ => rfl
  | buf j =>
    cases l with
    | reg r => exact State.readLoc_writeReg (by nofun) s v r
    | buf i => exact congrArg zext (vector_set_getElem_of_ne s.buf (fun h => hne (congrArg Loc.buf h)) _)
    | _ => rfl
  | tab b j =>
    cases l with
    | reg r => exact State.readLoc_writeReg (by nofun) s v r
    | _ => cases b <;> rfl
  | _ =>
    cases l with
    | reg r => exact State.readLoc_writeReg (by nofun) s v r
    | _ => rfl

/-- Settles O13: a read-only location ignores the write; any other takes it and shows it nowhere else. -/
theorem hostWriteStoresItsWidth : Obligations.HostWriteStoresItsWidth := by
  intro s l v rest hc hp
  have hstep := step_write hc hp
  refine ⟨fun hro => by rw [hstep, State.writeLoc_of_readOnly hro], fun _ => ⟨_, hstep, ?_⟩⟩
  obtain ⟨hpending, hanswer⟩ := ({ s with pending := rest } : State).writeLoc_port v l
  refine ⟨hpending, hanswer, fun w hw => State.readLoc_writeLoc hw _ v, ?_, fun l' hne hf => ?_⟩
  · rintro i rfl
    exact State.readLoc_writeLoc_ch _ v i
  · rw [State.readLoc_writeLoc_of_ne hne hf, s.readLoc_withPending]

end Sys2Proof.Machine
end

section
/-! The hop unit at run time: the pointer, the sync flag and the frequency (rules R31, R185, R187). -/

namespace Sys2Proof.Machine

/-- Settles O35: the entry at the pointer is the sync channel exactly at a block start. -/
theorem onSyncExactlyAtBlockStart : Obligations.OnSyncExactlyAtBlockStart := by
  intro s hsched
  rw [s.onSync_iff]
  refine and_congr_right fun hvalid => ?_
  rw [State.ScheduleMatches, if_pos hvalid] at hsched
  obtain ⟨hn, -, hlen, hsync, hptr, hwf⟩ := hsched
  rw [hlen] at hptr
  rw [← hwf.entry_eq_sync_iff (by omega) hptr, scheduleEntry_of_lt _ s.fhssPtr.isLt, BitVec.toNat_eq, hsync]

/-- The state after `k` accepted commands that have moved the pointer by `k` and changed nothing else. -/
def State.hopped (s : State) (k : Nat) : State :=
  { s with
    result := if k = 0 then s.result else .ok
    fhssPtr := BitVec.ofNat 8 ((s.fhssPtr.toNat + k) % s.fhssSeqCount.toNat) }

theorem State.hopped_ptr {s : State} (hlen : s.fhssSeqCount.toNat ≤ 256) (hpos : 0 < s.fhssSeqCount.toNat) (k : Nat) :
    (s.hopped k).fhssPtr.toNat = (s.fhssPtr.toNat + k) % s.fhssSeqCount.toNat := by
  have := Nat.mod_lt (s.fhssPtr.toNat + k) hpos
  exact (BitVec.toNat_ofNat ..).trans (Nat.mod_eq_of_lt (by omega))

theorem State.hopped_zero {s : State} (hptr : s.fhssPtr.toNat < s.fhssSeqCount.toNat) : s.hopped 0 = s := by
  simp [State.hopped, Nat.mod_eq_of_lt hptr]

theorem State.hopped_hopped {s : State} (hlen : s.fhssSeqCount.toNat ≤ 256) (hpos : 0 < s.fhssSeqCount.toNat)
    (k : Nat) : (s.hopped 1).hopped k = s.hopped (k + 1) := by
  have hptr := State.hopped_ptr hlen hpos 1
  have hmod : ((s.hopped 1).fhssPtr.toNat + k) % s.fhssSeqCount.toNat =
      (s.fhssPtr.toNat + (k + 1)) % s.fhssSeqCount.toNat := by
    rw [hptr, Nat.mod_add_mod, Nat.add_assoc, Nat.add_comm 1 k]
  calc (s.hopped 1).hopped k =
        { s with
          result := .ok
          fhssPtr := BitVec.ofNat 8 (((s.hopped 1).fhssPtr.toNat + k) % s.fhssSeqCount.toNat) } := by
        cases k <;> rfl
    _ = s.hopped (k + 1) := by rw [hmod]; rfl

theorem run_succ_of_next {M : Host.Core} {k : Nat} {s t : M.State} (h : M.step s = .next t) :
    M.run (k + 1) s = M.run k t := by
  simp only [Host.Core.run, h]

/-- One write of `FHSS.HOP` is taken off the port and moves the pointer by one (rule R185). -/
theorem step_issuing_hop {s : State} (hvalid : s.fhssValid = true) (k : Nat) :
    step (s.issuing (k + 1) 0x21#32) = .next ((s.hopped 1).issuing k 0x21#32) := by
  have hp : (s.issuing (k + 1) 0x21#32).pending = commandWrite 0x21#32 :: List.replicate k (commandWrite 0x21#32) := rfl
  rw [step_of_pending hp, access_commandWrite, runCommand_of_decode (i := .fhssHop) (by decide)]
  simp [exec, execFhssHop, State.issuing, hvalid, State.accept_eq, State.hopped]

/-- `k` writes of `FHSS.HOP` move the pointer by `k` (rules R25, R185). -/
theorem run_issuing_hop (k : Nat) {s : State} (hvalid : s.fhssValid = true) (hlen : s.fhssSeqCount.toNat ≤ 256)
    (hptr : s.fhssPtr.toNat < s.fhssSeqCount.toNat) :
    Host.Core.run Sys2Proof.core k (s.issuing k 0x21#32) = .next ((s.hopped k).issuing 0 0x21#32) := by
  have hpos := Nat.zero_lt_of_lt hptr
  induction k generalizing s with
  | zero => rw [State.hopped_zero hptr]; rfl
  | succ k ih =>
    have hptr' : (s.hopped 1).fhssPtr.toNat < (s.hopped 1).fhssSeqCount.toNat := by
      rw [State.hopped_ptr hlen hpos]
      exact Nat.mod_lt _ hpos
    have hrest := ih (s := s.hopped 1) hvalid hlen hptr' hpos
    rw [State.hopped_hopped hlen hpos] at hrest
    have hstep : Sys2Proof.core.step (s.issuing (k + 1) 0x21#32) = .next ((s.hopped 1).issuing k 0x21#32) :=
      step_issuing_hop hvalid k
    exact (run_succ_of_next hstep).trans hrest

/-- Settles O33: the run of `k` writes, by induction on `k`. -/
theorem hopsCycleThroughTheSchedule : Obligations.HopsCycleThroughTheSchedule := fun s k hvalid hlen hptr =>
  ⟨(s.hopped k).issuing 0 0x21#32, run_issuing_hop k hvalid hlen hptr,
    State.hopped_ptr hlen (Nat.zero_lt_of_lt hptr) k, rfl⟩

/-- For a channel of the domain the spread never leads past the span (rules R181, R187). -/
theorem spread_mul_chan_le {span n c : Nat} (hc : c ≤ n - 1) : span * 256 / (n - 1) * c / 256 ≤ span := by
  have h : span * 256 / (n - 1) * c ≤ span * 256 :=
    calc span * 256 / (n - 1) * c ≤ span * 256 / (n - 1) * (n - 1) := Nat.mul_le_mul_left _ hc
      _ ≤ span * 256 := Nat.div_mul_le_self _ _
  omega

/-- The last channel falls short of the span by what the two divisions cut off (rule R187). -/
theorem span_le_spread_mul_last {span n : Nat} (hn : 2 ≤ n) :
    span ≤ span * 256 / (n - 1) * (n - 1) / 256 + (n - 1 + 255) / 256 := by
  have hdiv := Nat.div_add_mod' (span * 256) (n - 1)
  have hmod := Nat.mod_lt (span * 256) (show 0 < n - 1 by omega)
  omega

/-- Settles O36: the sum stays below `2^32`, so no bit of it is cut off. -/
theorem frequencyStaysInTheDomain : Obligations.FrequencyStaysInTheDomain := by
  intro s n stop hn h256 hle hspan hspread hchan f
  have hspreadNat : s.fhssSpread.toNat = (stop.toNat - s.fhssActStart.toNat) * 256 / (n - 1) := by
    rw [hspread, freqSpread_toNat n hspan]
  have hoffset := spread_mul_chan_le (span := stop.toNat - s.fhssActStart.toNat) (Nat.le_sub_one_of_lt hchan)
  rw [← hspreadNat] at hoffset
  have hstop := stop.isLt
  have hf : f = s.fhssActStart.toNat + s.fhssSpread.toNat * s.fhssChan.toNat / 256 :=
    calc f = s.fhssFreq.toNat := zext_toNat (by decide) _
      _ = _ := by rw [s.fhssFreq_toNat, Nat.mod_eq_of_lt (by omega)]
  refine ⟨hf, by omega, fun h0 => ?_, fun hlast => ?_⟩
  · rw [hf, h0, Nat.mul_zero, Nat.zero_div, Nat.add_zero]
  · have hshort := span_le_spread_mul_last (span := stop.toNat - s.fhssActStart.toNat) hn
    rw [← hspreadNat, ← hlast] at hshort
    omega

end Sys2Proof.Machine
end

section
/-! What every step keeps, said once: a relation that every access but a reset keeps holds after a step or the step took
a reset. From it the error registers, the validity flags, and the whole coherence of the state. -/

namespace Sys2Proof.Machine

/-- `SYS.RESET` has one command word (rule R106). -/
theorem eq_one_of_decode_sysReset {w : Word} (h : decode w = .ok .sysReset) : w = 0x00000001#32 := by
  unfold decode at h
  split at h
  · rename_i r hfind
    injection h with hinstr
    have hmem := List.mem_of_find?_eq_some hfind
    have hfits : r.fits w = true := List.find?_some (p := fun r : Row => r.fits w) hfind
    simp only [opcodeRows, List.mem_cons, List.not_mem_nil, or_false] at hmem
    rcases hmem with rfl | rfl | rfl | rfl | rfl | rfl | rfl | rfl | rfl | rfl | rfl <;> cases hinstr
    have hmask : w &&& 0xFFFFFFFF#32 = 0x00000001#32 := by simpa [Row.fits] using hfits
    rwa [show (0xFFFFFFFF#32 : Word) = BitVec.allOnes 32 from rfl, BitVec.and_allOnes] at hmask
  · cases h

/-- A store writes registers and arrays the host may write, and nothing else (rules R33, R76, R85). -/
theorem State.writeLoc_frame (s : State) (v : Word) (l : Loc) :
    s.writeLoc v l = { s with
      txInflight := (s.writeLoc v l).txInflight, crcBits := (s.writeLoc v l).crcBits
      crcPoly := (s.writeLoc v l).crcPoly, crcLen := (s.writeLoc v l).crcLen
      crcInitval := (s.writeLoc v l).crcInitval, buf := (s.writeLoc v l).buf
      fhssSeed := (s.writeLoc v l).fhssSeed, fhssFreqCount := (s.writeLoc v l).fhssFreqCount
      fhssFreqStart := (s.writeLoc v l).fhssFreqStart, fhssFreqStop := (s.writeLoc v l).fhssFreqStop
      fhssHopInterval := (s.writeLoc v l).fhssHopInterval, otaNonce := (s.writeLoc v l).otaNonce
      otaTlmDenom := (s.writeLoc v l).otaTlmDenom, otaCrcInit := (s.writeLoc v l).otaCrcInit
      txArmed := (s.writeLoc v l).txArmed, txTlm := (s.writeLoc v l).txTlm
      otaUplinkPower := (s.writeLoc v l).otaUplinkPower, ch := (s.writeLoc v l).ch, pkt := (s.writeLoc v l).pkt } := by
  cases l with
  | reg r => cases r <;> rfl
  | _ => rfl

/-- Every access but a reset keeps the relation: it does not look at the port, and it holds after a store, a refusal and
an accepted command if it held before. -/
structure StepKept (P : State → Prop) : Prop where
  /-- The port is no part of the block. -/
  port : ∀ s p a, P s → P { s with pending := p, answer := a }
  /-- A host write to a location. -/
  store : ∀ s v l, P s → P (s.writeLoc v l)
  /-- A refused command. -/
  refuse : ∀ s c, c ≠ .ok → P s → P (s.refuse c)
  /-- An accepted command. -/
  command : ∀ s t i, i ≠ .sysReset → P s → Accepted s i t → P t

/-- The step took a reset, by the event or by the command, and the block is in its reset state (rules R142, R310). -/
def State.ResetBy (s t : State) : Prop :=
  ∃ rest, (s.pending = .reset :: rest ∨ s.pending = .write 0x000 4 0x00000001#32 :: rest) ∧
    t = { State.reset with pending := rest, answer := s.answer }

/-- A write of a command word keeps the relation or is a write of `SYS.RESET`. -/
theorem StepKept.runCommand {P : State → Prop} (hP : StepKept P) {w : Word} {s t : State} (hs : P s)
    (h : runCommand w s = .next t) : P t ∨ w = 0x00000001#32 ∧ t = s.blockReset := by
  unfold Machine.runCommand at h
  split at h
  · rename_i i hdec
    rcases exec_cases h with ⟨c, hc, rfl⟩ | hacc
    · exact .inl (hP.refuse s c hc hs)
    · by_cases hi : i = .sysReset
      · subst hi
        cases hacc
        exact .inr ⟨eq_one_of_decode_sysReset hdec, rfl⟩
      · exact .inl (hP.command s t i hi hs hacc)
  · injection h with h
    exact .inl (h ▸ hP.refuse s .eOpcode nofun hs)

/-- A step keeps the relation or takes a reset. -/
theorem StepKept.step_or_reset {P : State → Prop} (hP : StepKept P) {s t : State} (hs : P s) (h : step s = .next t) :
    P t ∨ s.ResetBy t := by
  rcases step_cases h with ⟨-, rfl⟩ | ⟨a, rest, hp, hacc⟩
  · exact .inl hs
  have hport : P { s with pending := rest } := hP.port s rest s.answer hs
  rcases hacc with ⟨l, rfl⟩ | ⟨w, rfl, hrun⟩ | ⟨l, v, -, rfl⟩ | ⟨rfl, rfl⟩
  · exact .inl (hP.port s rest _ hs)
  · rcases hP.runCommand hport hrun with ht | ⟨rfl, rfl⟩
    · exact .inl ht
    · exact .inr ⟨rest, .inr hp, rfl⟩
  · exact .inl (hP.store _ v l hport)
  · exact .inr ⟨rest, .inl hp, rfl⟩

/-- A relation that holds at reset and that every other access keeps, every step keeps. -/
theorem StepKept.step {P : State → Prop} (hP : StepKept P) (hreset : P State.reset) {s t : State} (hs : P s)
    (h : step s = .next t) : P t := by
  rcases hP.step_or_reset hs h with ht | ⟨rest, -, rfl⟩
  · exact ht
  · exact hP.port State.reset rest s.answer hreset

/-! ## The error registers -/

/-- An accepted command writes `RESULT <- 0` and leaves `STATUS.ERR` and `FIRSTERR` (rule R140). -/
theorem Accepted.errors {s t : State} {i : Instr} (hi : i ≠ .sysReset) (h : Accepted s i t) :
    t.result = .ok ∧ t.err = s.err ∧ t.firstErr = s.firstErr := by
  cases h with
  | sysReset => exact absurd rfl hi
  | otaPack => rw [s.built_frame]; exact ⟨rfl, rfl, rfl⟩
  | otaUnpack => rw [s.unpacked_frame]; exact ⟨rfl, rfl, rfl⟩
  | _ => exact ⟨rfl, rfl, rfl⟩

theorem firstErr_stepKept {c : Code} (hc : c ≠ .ok) : StepKept fun s => s.err = true ∧ s.firstErr = c where
  port _ _ _ h := h
  store s v l h := by rw [s.writeLoc_frame]; exact h
  refuse s d _ h := ⟨rfl, by rw [State.refuse_firstErr, if_neg (h.2 ▸ hc), h.2]⟩
  command s t i hi h hacc := by
    obtain ⟨-, herr, hfirst⟩ := hacc.errors hi
    exact ⟨herr.trans h.1, hfirst.trans h.2⟩

/-- Settles O20: the first code is kept by every access but a reset. -/
theorem firstErrorStaysUntilReset : Obligations.FirstErrorStaysUntilReset := fun _ _ herr hfirst hstep =>
  (firstErr_stepKept hfirst).step_or_reset ⟨herr, rfl⟩ hstep

theorem errMirrors_stepKept : StepKept State.ErrMirrors where
  port _ _ _ h := h
  store s v l h := by rw [s.writeLoc_frame]; exact h
  refuse s c hc h := by
    refine ⟨⟨fun _ => ?_, fun _ => rfl⟩, fun _ => rfl⟩
    rw [State.refuse_firstErr]
    split
    · exact hc
    · assumption
  command s t i hi h hacc := by
    obtain ⟨hok, herr, hfirst⟩ := hacc.errors hi
    exact ⟨by rw [herr, hfirst]; exact h.1, fun hne => absurd hok hne⟩

/-! ## The validity flags -/

/-- The flags that are 1 in the one state are 1 in the other (rule R30). -/
def State.FlagsRise (s t : State) : Prop :=
  (s.crc0Valid = true → t.crc0Valid = true) ∧ (s.crc1Valid = true → t.crc1Valid = true) ∧
    (s.fhssValid = true → t.fhssValid = true) ∧ (s.otaValid = true → t.otaValid = true)

theorem Accepted.flagsRise {s t : State} {i : Instr} (hi : i ≠ .sysReset) (h : Accepted s i t) : s.FlagsRise t := by
  cases h with
  | sysReset => exact absurd rfl hi
  | crcInit => exact ⟨fun _ => rfl, id, id, id⟩
  | fhssBuild => exact ⟨id, id, fun _ => rfl, id⟩
  | otaConfig => exact ⟨id, fun _ => rfl, id, fun _ => rfl⟩
  | otaPack => rw [s.built_frame]; exact ⟨id, id, id, id⟩
  | otaUnpack => rw [s.unpacked_frame]; exact ⟨id, id, id, id⟩
  | _ => exact ⟨id, id, id, id⟩

theorem State.FlagsRise.trans {s t u : State} (h : s.FlagsRise t) (h' : t.FlagsRise u) : s.FlagsRise u := by
  obtain ⟨h0, h1, hf, ho⟩ := h
  obtain ⟨h0', h1', hf', ho'⟩ := h'
  exact ⟨h0' ∘ h0, h1' ∘ h1, hf' ∘ hf, ho' ∘ ho⟩

theorem flagsRise_stepKept (s : State) : StepKept s.FlagsRise where
  port _ _ _ h := h
  store t v l h := by rw [t.writeLoc_frame]; exact h
  refuse _ _ _ h := h
  command _ _ _ hi h hacc := h.trans (hacc.flagsRise hi)

/-- Settles O21: every access but a reset keeps every flag that is 1. -/
theorem validityFlagsOnlyRise : Obligations.ValidityFlagsOnlyRise := fun s _ hstep =>
  (flagsRise_stepKept s).step_or_reset ⟨id, id, id, id⟩ hstep

/-! ## The cursor -/

/-- Building a packet steps the cursor modulo 7 or leaves it (rules R62, R212). -/
theorem State.built_cursorInCycle {s : State} (h : s.CursorInCycle) : s.built.CursorInCycle := by
  have hmod := Nat.mod_lt (s.swIdx.toNat + 1) (show 0 < 7 by decide)
  unfold State.built
  split
  · calc (BitVec.ofNat 3 ((s.swIdx.toNat + 1) % 7)).toNat = (s.swIdx.toNat + 1) % 7 := by
          rw [BitVec.toNat_ofNat, Nat.mod_eq_of_lt (by omega)]
      _ < 7 := hmod
  all_goals exact h

theorem cursorInCycle_stepKept : StepKept State.CursorInCycle where
  port _ _ _ h := h
  store s v l h := by rw [s.writeLoc_frame]; exact h
  refuse _ _ _ h := h
  command s t i hi h hacc := by
    cases hacc with
    | sysReset => exact absurd rfl hi
    | otaConfig => exact Nat.zero_lt_succ 6
    | otaPack => exact State.built_cursorInCycle h
    | otaUnpack => rw [s.unpacked_frame]; exact h
    | _ => exact h

/-! ## The banks -/

/-- The relation of bank 0 looks at three elements. -/
theorem State.Bank0Matches.congr {s t : State} (h : s.Bank0Matches) (hvalid : t.crc0Valid = s.crc0Valid)
    (hcfg : t.crc0Cfg = s.crc0Cfg) (htab : t.tab0 = s.tab0) : t.Bank0Matches := by
  unfold State.Bank0Matches
  rwa [hvalid, hcfg, htab]

/-- The relation of bank 1 looks at five elements. -/
theorem State.Bank1Matches.congr {s t : State} (h : s.Bank1Matches) (hcrc : t.crc1Valid = s.crc1Valid)
    (hota : t.otaValid = s.otaValid) (hmode : t.otaMode = s.otaMode) (hcfg : t.crc1Cfg = s.crc1Cfg)
    (htab : t.tab1 = s.tab1) : t.Bank1Matches := by
  unfold State.Bank1Matches
  rwa [hcrc, hota, hmode, hcfg, htab]

theorem bank0Matches_stepKept : StepKept State.Bank0Matches where
  port _ _ _ h := h.congr rfl rfl rfl
  store s v l h := by rw [s.writeLoc_frame]; exact h.congr rfl rfl rfl
  refuse _ _ _ h := h.congr rfl rfl rfl
  command s t i hi h hacc := by
    cases hacc with
    | sysReset => exact absurd rfl hi
    | crcInit hwidth hpoly =>
      exact ⟨List.contains_iff_mem.mp hwidth, hpoly, rfl⟩
    | otaPack => rw [s.built_frame]; exact h.congr rfl rfl rfl
    | otaUnpack => rw [s.unpacked_frame]; exact h.congr rfl rfl rfl
    | _ => exact h.congr rfl rfl rfl

theorem State.configured_bank1Matches (s : State) (m : Mode) : (s.configured m).Bank1Matches := ⟨rfl, rfl, rfl⟩

theorem bank1Matches_stepKept : StepKept State.Bank1Matches where
  port _ _ _ h := h.congr rfl rfl rfl rfl rfl
  store s v l h := by rw [s.writeLoc_frame]; exact h.congr rfl rfl rfl rfl rfl
  refuse _ _ _ h := h.congr rfl rfl rfl rfl rfl
  command s t i hi h hacc := by
    cases hacc with
    | sysReset => exact absurd rfl hi
    | otaConfig n m => exact (s.configured_bank1Matches m).congr rfl rfl rfl rfl rfl
    | otaPack => rw [s.built_frame]; exact h.congr rfl rfl rfl rfl rfl
    | otaUnpack => rw [s.unpacked_frame]; exact h.congr rfl rfl rfl rfl rfl
    | _ => exact h.congr rfl rfl rfl rfl rfl

theorem reset_bank0Matches : State.reset.Bank0Matches := ⟨rfl, rfl⟩

theorem reset_bank1Matches : State.reset.Bank1Matches := ⟨rfl, rfl, rfl, rfl⟩

/-- Settles O59: each bank on its own. -/
theorem stepKeepsBanksMatched : Obligations.StepKeepsBanksMatched := fun _ _ h0 h1 hstep =>
  ⟨bank0Matches_stepKept.step reset_bank0Matches h0 hstep, bank1Matches_stepKept.step reset_bank1Matches h1 hstep⟩

/-! ## The schedule -/

/-- The relation of the schedule looks at eight elements. -/
theorem State.ScheduleMatches.congr {s t : State} (h : s.ScheduleMatches) (hvalid : t.fhssValid = s.fhssValid)
    (hseq : t.seq = s.seq) (hlen : t.fhssSeqCount = s.fhssSeqCount) (hcount : t.fhssActCount = s.fhssActCount)
    (hsync : t.fhssSync = s.fhssSync) (hptr : t.fhssPtr = s.fhssPtr) (hspread : t.fhssSpread = s.fhssSpread)
    (hstart : t.fhssActStart = s.fhssActStart) : t.ScheduleMatches := by
  unfold State.ScheduleMatches
  rwa [hvalid, hseq, hlen, hcount, hsync, hptr, hspread, hstart]

theorem scheduleMatches_iff_of_valid {s : State} (h : s.fhssValid = true) :
    s.ScheduleMatches ↔ 2 ≤ s.fhssActCount.toNat ∧ s.fhssActCount.toNat ≤ 256 ∧
      s.fhssSeqCount.toNat = 256 / s.fhssActCount.toNat * s.fhssActCount.toNat ∧
      s.fhssSync.toNat = s.fhssActCount.toNat / 2 ∧ s.fhssPtr.toNat < s.fhssSeqCount.toNat ∧
      WellFormedSchedule s.seq s.fhssActCount.toNat := by
  rw [State.ScheduleMatches, if_pos h]

/-- An accepted `FHSS.BUILD` gives a schedule that agrees with its registers (rules R175, R180). -/
theorem fhssBuild_scheduleMatches {s t : State} (h : Accepted s .fhssBuild t) : t.ScheduleMatches := by
  cases h with
  | fhssBuild hdomain =>
    obtain ⟨hn, h256, -, -⟩ := s.fhssDomainLegal_iff.mp hdomain
    have hle := seqCount_le s.fhssFreqCount.toNat
    have hpos := le_seqCount (by omega) h256
    have hlen : (BitVec.ofNat 9 (seqCount s.fhssFreqCount.toNat)).toNat = seqCount s.fhssFreqCount.toNat := by
      rw [BitVec.toNat_ofNat, Nat.mod_eq_of_lt (by omega)]
    have hsync : (BitVec.ofNat 8 (syncChan s.fhssFreqCount.toNat)).toNat = s.fhssFreqCount.toNat / 2 := by
      rw [BitVec.toNat_ofNat, syncChan, Nat.mod_eq_of_lt (by omega)]
    exact (scheduleMatches_iff_of_valid rfl).mpr
      ⟨hn, h256, hlen, hsync, hlen.symm ▸ (by omega : 0 < seqCount s.fhssFreqCount.toNat),
        buildSeq_wellFormed s.fhssSeed hn h256⟩

/-- An accepted `FHSS.HOP` keeps the pointer inside the schedule (rules R51, R185). -/
theorem fhssHop_scheduleMatches {s t : State} (hs : s.ScheduleMatches) (h : Accepted s .fhssHop t) :
    t.ScheduleMatches := by
  cases h with
  | fhssHop hvalid =>
    obtain ⟨hn, h256, hlen, hsync, hptr, hwf⟩ := (scheduleMatches_iff_of_valid hvalid).mp hs
    have hle := schedule_length_le s.fhssActCount.toNat
    have hmod := Nat.mod_lt (s.fhssPtr.toNat + 1) (Nat.zero_lt_of_lt hptr)
    have hptr' : (BitVec.ofNat 8 ((s.fhssPtr.toNat + 1) % s.fhssSeqCount.toNat)).toNat < s.fhssSeqCount.toNat := by
      rwa [BitVec.toNat_ofNat, Nat.mod_eq_of_lt (by omega)]
    rw [scheduleMatches_iff_of_valid (by exact hvalid)]
    exact ⟨hn, h256, hlen, hsync, hptr', hwf⟩

theorem scheduleMatches_stepKept : StepKept State.ScheduleMatches where
  port _ _ _ h := h.congr rfl rfl rfl rfl rfl rfl rfl rfl
  store s v l h := by rw [s.writeLoc_frame]; exact h.congr rfl rfl rfl rfl rfl rfl rfl rfl
  refuse _ _ _ h := h.congr rfl rfl rfl rfl rfl rfl rfl rfl
  command s t i hi h hacc := by
    cases i with
    | sysReset => exact absurd rfl hi
    | fhssBuild => exact fhssBuild_scheduleMatches hacc
    | fhssHop => exact fhssHop_scheduleMatches h hacc
    | otaPack => cases hacc; rw [s.built_frame]; exact h.congr rfl rfl rfl rfl rfl rfl rfl rfl
    | otaUnpack => rw [(otaUnpack_frame hacc).1]; exact h.congr rfl rfl rfl rfl rfl rfl rfl rfl
    | _ => cases hacc; exact h.congr rfl rfl rfl rfl rfl rfl rfl rfl

/-! ## The whole state -/

/-- Settles O60: the five relations are kept each on its own. -/
theorem stepKeepsCoherence : Obligations.StepKeepsCoherence := fun _ _ h hstep =>
  { errMirrors := errMirrors_stepKept.step ⟨by decide, by decide⟩ h.errMirrors hstep
    cursorInCycle := cursorInCycle_stepKept.step (Nat.zero_lt_succ 6) h.cursorInCycle hstep
    bank0Matches := bank0Matches_stepKept.step reset_bank0Matches h.bank0Matches hstep
    bank1Matches := bank1Matches_stepKept.step reset_bank1Matches h.bank1Matches hstep
    scheduleMatches := scheduleMatches_stepKept.step ⟨rfl, rfl, rfl, rfl, rfl, rfl, rfl⟩ h.scheduleMatches hstep }

end Sys2Proof.Machine
end

section
/-! Accesses without a meaning: those of another width or alignment (rule R87), and those aimed at a reserved offset or
outside the window (rule R88). -/

namespace Sys2Proof.Machine

/-! ## A refused access stops the step -/

theorem step_read_refused {s : State} {o b : Nat} {rest : List Access} {r : Refusal}
    (hp : s.pending = .read o b :: rest) (h : target o b = .error r) : step s = .refused r :=
  (step_of_pending hp).trans (access_read_refused h _)

theorem step_write_refused {s : State} {o b : Nat} {v : Word} {rest : List Access} {r : Refusal}
    (hp : s.pending = .write o b v :: rest) (h : target o b = .error r) : step s = .refused r :=
  (step_of_pending hp).trans (access_write_refused h v _)

/-- Only the aligned access of 4 bytes reaches a location (rule R87). -/
theorem target_refuses_unaligned_or_other_width {o b : Nat} (h : b ≠ 4 ∨ o % 4 ≠ 0) : ∃ r, target o b = .error r := by
  rcases target_cases o b with ⟨r, hr, -⟩ | ⟨l, -, hb, ho, -⟩
  · exact ⟨r, hr⟩
  · exact absurd h (by omega)

/-- Settles O8: the address map gives such an access no location, and the step is refused with it. -/
theorem unalignedOrOtherWidthRefused : Obligations.UnalignedOrOtherWidthRefused := by
  intro s o b v rest h
  obtain ⟨r, hr⟩ := target_refuses_unaligned_or_other_width h
  exact ⟨fun hp => ⟨r, step_read_refused hp hr⟩, fun hp => ⟨r, step_write_refused hp hr⟩⟩

/-! ## Reserved offsets -/

/-- An aligned access to an offset that names nothing is refused by that name (rule R88). -/
theorem target_of_reserved {o : Nat} (ho : o % 4 = 0) (h : locate o = none) :
    target o 4 = .error (.reservedOffset o) := by
  simp [target, ho, h]

/-- An aligned offset misses an aligned array exactly when it lies outside the array's window (rule R76). -/
theorem elementAt_eq_none_iff {base n o : Nat} (hb : base % 4 = 0) (ho : o % 4 = 0) :
    elementAt base n o = none ↔ o < base ∨ base + 4 * n ≤ o := by
  refine ⟨fun h => ?_, elementAt_eq_none_of⟩
  by_contra hin
  have hlt : (o - base) / 4 < n := by omega
  have hsome := (elementAt_eq_some_iff (o := o) hb ⟨(o - base) / 4, hlt⟩).mpr (by dsimp only; omega)
  cases h.symm.trans hsome

/-- The gaps of the register map: one evaluation for each of the 64 words below the arrays (rules R33, R88). -/
theorem regAt_eq_none_iff {o : Nat} (ho : o % 4 = 0) (hlt : o < 0x100) :
    regAt o = none ↔ (0x014 ≤ o ∧ o ≤ 0x01C) ∨ o = 0x03C ∨ (0x078 ≤ o ∧ o ≤ 0x07C) ∨ 0x0A8 ≤ o := by
  have hwords : ∀ k < 64, regAt (4 * k) = none ↔
      (0x014 ≤ 4 * k ∧ 4 * k ≤ 0x01C) ∨ 4 * k = 0x03C ∨ (0x078 ≤ 4 * k ∧ 4 * k ≤ 0x07C) ∨ 0x0A8 ≤ 4 * k := by decide
  obtain ⟨k, rfl⟩ := Nat.dvd_of_mod_eq_zero ho
  exact hwords k (by omega)

/-- An aligned offset names nothing exactly when no register has it and it lies outside the two ranges that the seven
array windows fill (rules R33, R76). -/
theorem locate_eq_none_iff {o : Nat} (ho : o % 4 = 0) :
    locate o = none ↔ regAt o = none ∧ (o < 0x100 ∨ 0x1B4 ≤ o) ∧ (o < 0x400 ∨ 0x1400 ≤ o) := by
  unfold locate
  simp only [Option.orElse_eq_orElse, Option.orElse_eq_or, Option.or_eq_none_iff, Option.map_eq_none_iff]
  simp (disch := omega) only [elementAt_eq_none_iff]
  refine and_congr_right fun _ => ?_
  omega

/-- Settles O9: below the arrays the gaps of the register map, from 0x100 on the gap between the array windows and what
lies past the last one. -/
theorem reservedOffsetsRefused : Obligations.ReservedOffsetsRefused := by
  intro o ho
  refine ⟨?_, fun s v rest h => ?_⟩
  · rw [locate_eq_none_iff ho]
    rcases Nat.lt_or_ge o 0x100 with hlt | hge
    · rw [regAt_eq_none_iff ho hlt]
      omega
    · simp only [regAt_eq_none_of_le hge, true_and]
      omega
  · have htarget := target_of_reserved ho h
    exact ⟨fun hp => step_read_refused hp htarget, fun hp => step_write_refused hp htarget⟩

end Sys2Proof.Machine
end

section
/-! The command word: what the decoder reads, the encoder writes back, and which words no row of the opcode table fits
(rules R101 to R107, R112). -/

namespace Sys2Proof

/-! ## Decoding is by the rows -/

theorem Row.fits_iff (r : Row) (w : Word) : r.fits w = true ↔ w &&& r.mask = r.pattern := by
  simp [Row.fits]

/-- A decoded command is the one of a row that the word fits. -/
theorem exists_row_of_decode {w : Word} {i : Instr} (h : decode w = .ok i) :
    ∃ r ∈ opcodeRows, w &&& r.mask = r.pattern ∧ r.instr w = i := by
  unfold decode at h
  split at h
  next r hfind =>
    exact ⟨r, List.mem_of_find?_eq_some hfind, (r.fits_iff w).mp (List.find?_eq_some_iff_append.mp hfind).1,
      Except.ok.inj h⟩
  next => cases h

/-- A word is illegal exactly when no row fits it (rule R107). -/
theorem decode_illegal_iff (w : Word) :
    (∃ e, decode w = .error e) ↔ ¬∃ r ∈ opcodeRows, w &&& r.mask = r.pattern := by
  cases hfind : opcodeRows.find? (fun r => r.fits w) with
  | some r =>
    have hfits := (r.fits_iff w).mp (List.find?_eq_some_iff_append.mp hfind).1
    simpa [decode, hfind] using ⟨r, List.mem_of_find?_eq_some hfind, hfits⟩
  | none =>
    have hnone := List.find?_eq_none.mp hfind
    simpa [decode, hfind, Row.fits_iff] using hnone

/-! ## The operand fields -/

/-- The `BANK` field, put back at its place, is bit 8 of the word (rule R103). -/
theorem bankBits_bankField (w : Word) : bankBits (bankField w) = w &&& 0x100#32 := by
  have hbit : w &&& 0x100#32 = if w.getLsbD 8 then 0x100#32 else 0x000#32 := BitVec.and_twoPow w 8
  rw [hbit, bankField]
  split <;> rfl

/-- The `MODE` field, put back at its place, is bits 10:8 of the word (rule R104). -/
theorem modeField_shiftLeft (w : Word) : BitVec.ofNat 32 (modeField w) <<< 8 = w &&& 0x700#32 := by
  have hfield : BitVec.ofNat 32 (modeField w) = w >>> 8 &&& 0x7#32 := by
    apply BitVec.eq_of_toNat_eq
    have hand (n : Nat) : n &&& 7 = n % 2 ^ 3 := Nat.and_two_pow_sub_one_eq_mod n 3
    simp [modeField, hand]
    omega
  calc BitVec.ofNat 32 (modeField w) <<< 8 = w >>> 8 <<< 8 &&& 0x7#32 <<< 8 := by
        rw [hfield, BitVec.shiftLeft_and_distrib]
    _ = w &&& (BitVec.allOnes 32 <<< 8 &&& 0x7#32 <<< 8) := by
        rw [BitVec.shiftLeft_ushiftRight, BitVec.and_assoc]
    _ = w &&& 0x700#32 := rfl

theorem modeField_lt (w : Word) : modeField w < 8 := (w.extractLsb' 8 3).isLt

/-- A row's command is well formed, and its word is the row's match with the word's own bits where the mask leaves
them free. -/
theorem encode_row_instr {r : Row} (hr : r ∈ opcodeRows) (w : Word) :
    (r.instr w).wellFormed = true ∧ encode (r.instr w) = r.pattern ||| w &&& ~~~r.mask := by
  simp only [opcodeRows, List.mem_cons, List.not_mem_nil, or_false] at hr
  rcases hr with rfl | rfl | rfl | rfl | rfl | rfl | rfl | rfl | rfl | rfl | rfl
  all_goals simp [Instr.wellFormed, encode, bankBits_bankField, modeField_shiftLeft, modeField_lt]

/-! ## Decode and encode -/

/-- What is decoded is well formed and encodes to the word it was decoded from. -/
theorem encode_of_decode {w : Word} {i : Instr} (h : decode w = .ok i) : i.wellFormed = true ∧ encode i = w := by
  obtain ⟨r, hr, hfits, rfl⟩ := exists_row_of_decode h
  obtain ⟨hwf, hencode⟩ := encode_row_instr hr w
  refine ⟨hwf, ?_⟩
  calc encode (r.instr w) = w &&& r.mask ||| w &&& ~~~r.mask := by rw [hencode, hfits]
    _ = w := by rw [← BitVec.and_or_distrib_left, BitVec.or_not_self, BitVec.and_allOnes]

/-- The word of a well-formed command decodes to the command. -/
theorem decode_encode {i : Instr} (h : i.wellFormed = true) : decode (encode i) = .ok i := by
  cases i with
  | crcCalc bank => cases bank <;> rfl
  | otaConfig mode =>
    have hmode : mode < 8 := of_decide_eq_true h
    interval_cases mode <;> rfl
  | _ => rfl

/-- Settles O1: `encode_of_decode` one way, `decode_encode` the other. -/
theorem decodesExactlyItsEncoding : Obligations.DecodesExactlyItsEncoding := by
  intro w i
  refine ⟨encode_of_decode, ?_⟩
  rintro ⟨hwf, rfl⟩
  exact decode_encode hwf

/-- Settles O3: each of these words is evaluated. -/
theorem workedWordsDecode : Obligations.WorkedWordsDecode := by
  unfold Obligations.WorkedWordsDecode
  decide

/-! ## Illegal words -/

/-- A test of disjoint masks is the two tests, when the expected value lies under the first one. -/
theorem and_or_eq_iff_of_disjoint {n : Nat} {w m₁ m₂ p : BitVec n} (hp : p &&& m₁ = p) (hdisj : m₁ &&& m₂ = 0#n) :
    w &&& (m₁ ||| m₂) = p ↔ w &&& m₁ = p ∧ w &&& m₂ = 0#n := by
  have hp₂ : p &&& m₂ = 0#n := by rw [← hp, BitVec.and_assoc, hdisj, BitVec.and_zero]
  constructor
  · intro h
    have h₁ : w &&& m₁ = (w &&& (m₁ ||| m₂)) &&& m₁ := by grind
    have h₂ : w &&& m₂ = (w &&& (m₁ ||| m₂)) &&& m₂ := by grind
    exact ⟨by rw [h₁, h, hp], by rw [h₂, h, hp₂]⟩
  · rintro ⟨h₁, h₂⟩
    rw [BitVec.and_or_distrib_left, h₁, h₂, BitVec.or_zero]

/-- The `RSV` field is 0 exactly when its bits are (rule R101). -/
theorem and_rsv_eq_zero_iff (w : Word) : w &&& 0xFFFFF800#32 = 0#32 ↔ w >>> 11 = 0#32 := by
  have hkeep : w >>> 11 <<< 11 = w &&& 0xFFFFF800#32 := BitVec.shiftLeft_ushiftRight
  rw [← hkeep]
  bv_omega

/-- The bits of `ARG` that the format of an operation requires to be 0: none in format M, the upper two in format X,
all in format Z (rules R102 to R104). -/
def zeroArgBits (op : Word) : Word := if op = 0x30#32 then 0x000#32 else if op = 0x11#32 then 0x600#32 else 0x700#32

/-- A row tests `OP`, the `ARG` bits its format requires to be 0, and `RSV` (rules R101 to R104). -/
theorem row_fits_iff_fields {r : Row} (hr : r ∈ opcodeRows) (w : Word) :
    w &&& r.mask = r.pattern ↔ w &&& 0xFF#32 = r.pattern ∧ w &&& zeroArgBits r.pattern = 0#32 ∧ w >>> 11 = 0#32 := by
  have hshape : ∀ r ∈ opcodeRows, r.mask = 0xFF#32 ||| (zeroArgBits r.pattern ||| 0xFFFFF800#32) ∧
      r.pattern &&& 0xFF#32 = r.pattern ∧ 0xFF#32 &&& (zeroArgBits r.pattern ||| 0xFFFFF800#32) = 0#32 ∧
      zeroArgBits r.pattern &&& 0xFFFFF800#32 = 0#32 := by decide
  obtain ⟨hmask, hop, hdisj, hdisjArg⟩ := hshape r hr
  rw [hmask, and_or_eq_iff_of_disjoint hop hdisj, and_or_eq_iff_of_disjoint BitVec.zero_and hdisjArg,
    and_rsv_eq_zero_iff]

/-- The words that some row fits: an assigned `OP`, `ARG` as its format requires, and `RSV` 0. -/
theorem exists_row_fits_iff (w : Word) :
    (∃ r ∈ opcodeRows, w &&& r.mask = r.pattern) ↔
      w &&& 0xFF#32 ∈ opcodeRows.map (·.pattern) ∧ w &&& zeroArgBits (w &&& 0xFF#32) = 0#32 ∧ w >>> 11 = 0#32 := by
  simp only [List.mem_map]
  constructor
  · rintro ⟨r, hr, hfits⟩
    obtain ⟨hop, harg, hrsv⟩ := (row_fits_iff_fields hr w).mp hfits
    exact ⟨⟨r, hr, hop.symm⟩, hop ▸ harg, hrsv⟩
  · rintro ⟨⟨r, hr, hop⟩, harg, hrsv⟩
    exact ⟨r, hr, (row_fits_iff_fields hr w).mpr ⟨hop.symm, hop ▸ harg, hrsv⟩⟩

/-- An `ARG` bit that must be 0 is set: in format Z any of the three, in format X bit 9 or bit 10. -/
theorem and_zeroArgBits_ne_zero_iff (w op : Word) :
    w &&& zeroArgBits op ≠ 0#32 ↔
      (op ∉ [0x11#32, 0x30#32] ∧ w &&& 0x700#32 ≠ 0#32) ∨ (op = 0x11#32 ∧ w &&& 0x600#32 ≠ 0#32) := by
  unfold zeroArgBits
  split
  next hM => simp [hM]
  next hM =>
    split
    next hX => simp [hX]
    next hX => simp [hM, hX]

/-- Settles O2: the negation, field by field, of what a row requires. -/
theorem illegalWordsAreThoseListed : Obligations.IllegalWordsAreThoseListed := by
  intro w
  rw [decode_illegal_iff, exists_row_fits_iff, not_and_or, not_and_or, ← ne_eq (w &&& _), and_zeroArgBits_ne_zero_iff]
  simp only [opcodeRows, List.map_cons, List.map_nil]
  tauto

end Sys2Proof
end

section
/-! The packing of four codes and the channel codes as numbers, with their round trips (rules R120, R205, R223, R261,
R266). -/

namespace Sys2Proof.Machine

/-- The four codes of a packed number, each at its ten bits (rule R120). -/
theorem packedCode_pack4x10 (c0 c1 c2 c3 : Code10) :
    packedCode (pack4x10 c0 c1 c2 c3) 0 = c0 ∧ packedCode (pack4x10 c0 c1 c2 c3) 1 = c1 ∧
      packedCode (pack4x10 c0 c1 c2 c3) 2 = c2 ∧ packedCode (pack4x10 c0 c1 c2 c3) 3 = c3 := by
  unfold packedCode pack4x10
  refine ⟨BitVec.extractLsb'_append_eq_right, ?_, ?_, ?_⟩
  · exact (BitVec.extractLsb'_append_eq_of_le (by decide)).trans BitVec.extractLsb'_append_eq_right
  · exact (BitVec.extractLsb'_append_eq_of_le (by decide)).trans <|
      (BitVec.extractLsb'_append_eq_of_le (by decide)).trans BitVec.extractLsb'_append_eq_right
  · exact (BitVec.extractLsb'_append_eq_of_le (by decide)).trans <|
      (BitVec.extractLsb'_append_eq_of_le (by decide)).trans BitVec.extractLsb'_append_eq_left

/-! ## The compact code -/

/-- The decimator's formula fits its ten bits, so nothing is cut off (rule R205). -/
theorem enc10Limit_toNat (x : Chan) :
    (enc10Limit x).toNat = ((min (max x.toNat 172) 1811 - 172) * 2046 / 1639 + 1) / 2 := by
  simp only [enc10Limit, clamp, Config.chMin, Config.chMax, BitVec.toNat_ofNat]
  apply Nat.mod_eq_of_lt
  omega

/-- The expander's formula fits its eleven bits, so nothing is cut off (rule R261). -/
theorem dec10Limit_toNat (v : Code10) : (dec10Limit v).toNat = (v.toNat * 3278 / 1023 + 345) / 2 := by
  have := v.isLt
  simp only [dec10Limit, BitVec.toNat_ofNat]
  apply Nat.mod_eq_of_lt
  omega

/-- Re-encoding an expanded code gives the code back: the expander errs by half a channel step at most, less than half
a code step. -/
theorem enc10Limit_dec10Limit (v : Code10) : enc10Limit (dec10Limit v) = v := by
  apply BitVec.eq_of_toNat_eq
  have := v.isLt
  rw [enc10Limit_toNat, dec10Limit_toNat]
  omega

theorem chanDist_le_iff {a b d : Nat} : chanDist a b ≤ d ↔ a ≤ b + d ∧ b ≤ a + d := by
  unfold chanDist
  omega

/-- Expanding an encoded channel errs by at most 1 from the clamped value (rule R261). -/
theorem chanDist_dec10Limit_enc10Limit (x : Chan) :
    chanDist (dec10Limit (enc10Limit x)).toNat (min (max x.toNat 172) 1811) ≤ 1 := by
  have hlo : 172 ≤ min (max x.toNat 172) 1811 := by omega
  have hhi : min (max x.toNat 172) 1811 ≤ 1811 := by omega
  rw [chanDist_le_iff, dec10Limit_toNat, enc10Limit_toNat]
  generalize min (max x.toNat 172) 1811 = y at hlo hhi ⊢
  omega

/-! ## The extended code -/

theorem enc10Trunc_toNat (x : Chan) : (enc10Trunc x).toNat = x.toNat / 2 := by
  have := x.isLt
  rw [enc10Trunc, BitVec.toNat_setWidth, BitVec.toNat_ushiftRight, Nat.shiftRight_eq_div_pow,
    Nat.mod_eq_of_lt (by omega), pow_one]

theorem dec10Trunc_toNat (v : Code10) : (dec10Trunc v).toNat = v.toNat * 2 := by
  have := v.isLt
  rw [dec10Trunc, BitVec.toNat_shiftLeft, BitVec.toNat_setWidth, Nat.shiftLeft_eq, Nat.mod_eq_of_lt (by omega),
    Nat.mod_eq_of_lt (by omega), pow_one]

/-- The extended round trip clears the lowest bit (rules R223, R266). -/
theorem dec10Trunc_enc10Trunc_toNat (x : Chan) : (dec10Trunc (enc10Trunc x)).toNat = x.toNat / 2 * 2 := by
  rw [dec10Trunc_toNat, enc10Trunc_toNat]

/-- Settles O54: one round trip for each of the three codes. -/
theorem channelCodesRoundTrip : Obligations.ChannelCodesRoundTrip :=
  ⟨packedCode_pack4x10, enc10Limit_dec10Limit, chanDist_dec10Limit_enc10Limit, dec10Trunc_enc10Trunc_toNat⟩

end Sys2Proof.Machine
end

section
/-! The SYS group: what `SYS.NOP` and `SYS.RESET` leave (rules R141, R142). -/

namespace Sys2Proof.Machine

theorem exec_sysNop (s : State) : exec .sysNop s = .next s.accept := rfl

theorem exec_sysReset (s : State) : exec .sysReset s = .next s.blockReset.accept := rfl

/-- Settles O17: the outcome is `accept`, which writes `RESULT` alone. -/
theorem nopClearsResultOnly : Obligations.NopClearsResultOnly := fun s => by
  rw [exec_sysNop, s.accept_eq]

/-- What a read answers does not depend on the port's last answer. -/
theorem State.readLoc_withAnswer (s : State) (answer : Option Word) (l : Loc) :
    ({ s with answer := answer } : State).readLoc l = s.readLoc l := by
  cases l with
  | reg r => cases r <;> rfl
  | tab b i => cases b <;> rfl
  | _ => rfl

/-- Every register reads 0 in the reset state, the computed ones included (rule R311). -/
theorem State.readReg_reset (r : Reg) : State.reset.readReg r = 0 := by
  cases r <;> decide

/-- Every location reads 0 in the reset state (rule R311). -/
theorem State.readLoc_reset (l : Loc) : State.reset.readLoc l = 0 := by
  cases l with
  | reg r => exact State.readReg_reset r
  | tab b i => cases b <;> simp [State.readLoc, State.bankTab, zext]
  | _ => simp [State.readLoc, zext]

/-- Every location reads 0 after a reset that keeps the port, since no location shows the port (rules R142, R311). -/
theorem State.readLoc_blockReset (s : State) (l : Loc) : s.blockReset.readLoc l = 0 :=
  calc s.blockReset.readLoc l
    _ = ({ State.reset with answer := s.answer } : State).readLoc l := State.readLoc_withPending _ s.pending l
    _ = State.reset.readLoc l := State.reset.readLoc_withAnswer s.answer l
    _ = 0 := State.readLoc_reset l

/-- Settles O18: the outcome is `blockReset`, whose `RESULT` is already 0. -/
theorem sysResetClearsTheBlock : Obligations.SysResetClearsTheBlock := fun s =>
  ⟨s.blockReset, by rw [exec_sysReset, s.accept_blockReset], s.blockReset_eq, s.blockReset_result,
    s.readLoc_blockReset⟩

end Sys2Proof.Machine
end

section
/-! What `OTA.PACK` reads: the packet is the one that a block holding only the inputs of the command would pack
(rules R144, R200, R203). -/

namespace Sys2Proof.Machine

/-! ## The packet CRC and its field -/

/-- The number of leading bytes that the packet CRC covers (rule R225). -/
def Mode.crcSpan (m : Mode) : Nat := if m.isCompact then 7 else 11

theorem Mode.crcSpan_of_compact {m : Mode} (h : m.isCompact = true) : m.crcSpan = 7 := by simp [Mode.crcSpan, h]

theorem Mode.crcSpan_of_extended {m : Mode} (h : m.isCompact = false) : m.crcSpan = 11 := by simp [Mode.crcSpan, h]

theorem State.pktCrc_of_compact {s : State} (h : s.otaMode.isCompact = true) :
    s.pktCrc = crcFold 14 s.tab1 s.otaCrcInit (s.crcHeader :: (s.pkt.toList.take 7).drop 1) := by
  rw [State.pktCrc, if_pos h, List.take_drop]

theorem State.pktCrc_of_extended {s : State} (h : s.otaMode.isCompact = false) :
    s.pktCrc = crcFold 16 s.tab1 s.otaCrcInit (s.pkt.toList.take 11) := by
  simp [State.pktCrc, h]

theorem toList_take_congr {v w : Vector Byte 13} {n : Nat} (h : ∀ k (hk : k < 13), k < n → v[k] = w[k]) :
    v.toList.take n = w.toList.take n := by
  refine List.ext_getElem (by simp) fun k hk _ => ?_
  rw [List.length_take, Vector.length_toList] at hk
  simpa using h k (by omega) (by omega)

/-- The header of a compact CRC is computed from the mode, the header byte, the nonce and the hop interval
(rules R225, R226). -/
theorem State.crcHeader_congr {s t : State} (hmode : s.otaMode = t.otaMode) (hnonce : s.otaNonce = t.otaNonce)
    (hint : s.fhssHopInterval = t.fhssHopInterval) (hbyte : s.pkt[0] = t.pkt[0]) : s.crcHeader = t.crcHeader := by
  have hneed : s.needsHopSync = t.needsHopSync := by
    rw [State.needsHopSync, State.needsHopSync, State.pktIsRc, State.pktIsRc, hmode, hbyte]
  have hsync : s.hopSync = t.hopSync := by rw [State.hopSync, State.hopSync, hnonce, hint]
  rw [State.crcHeader, State.crcHeader, State.crcSub, State.crcSub, hneed, hsync, hbyte]

/-- The packet CRC is computed from the bytes it covers and five registers (rules R225, R226). -/
theorem State.pktCrc_congr {s t : State} (hmode : s.otaMode = t.otaMode) (hnonce : s.otaNonce = t.otaNonce)
    (hint : s.fhssHopInterval = t.fhssHopInterval) (hinit : s.otaCrcInit = t.otaCrcInit) (htab : s.tab1 = t.tab1)
    (hbytes : ∀ k (hk : k < 13), k < s.otaMode.crcSpan → s.pkt[k] = t.pkt[k]) : s.pktCrc = t.pktCrc := by
  have htake := toList_take_congr hbytes
  cases hc : s.otaMode.isCompact with
  | true =>
    rw [Mode.crcSpan_of_compact hc] at hbytes htake
    have hheader := State.crcHeader_congr hmode hnonce hint (hbytes 0 (by decide) (by decide))
    rw [State.pktCrc_of_compact hc, State.pktCrc_of_compact (hmode ▸ hc), hheader, htake, hinit, htab]
  | false =>
    rw [Mode.crcSpan_of_extended hc] at htake
    rw [State.pktCrc_of_extended hc, State.pktCrc_of_extended (hmode ▸ hc), htake, hinit, htab]

/-- Sealing a packet uses what its CRC covers and nothing else of the packet: the CRC field is overwritten
(rule R229). -/
theorem State.sealedPkt_congr {s t : State} (hmode : s.otaMode = t.otaMode) (hcrc : s.pktCrc = t.pktCrc)
    (hbytes : ∀ k (hk : k < 13), k < s.otaMode.crcSpan → s.pkt[k] = t.pkt[k]) {k : Nat} (hk : k < 13)
    (hlen : k < s.otaMode.pktLen) : s.sealedPkt[k] = t.sealedPkt[k] := by
  cases hc : s.otaMode.isCompact with
  | true =>
    rw [Mode.crcSpan_of_compact hc] at hbytes
    have hlen : k < 8 := by simpa [Mode.pktLen, hc, Config.lenCompact] using hlen
    rw [State.sealedPkt_of_compact hc, State.sealedPkt_of_compact (hmode ▸ hc), hcrc,
      hbytes 0 (by decide) (by decide)]
    simp only [Vector.getElem_set]
    split_ifs
    · rfl
    · rfl
    · exact hbytes k hk (by omega)
  | false =>
    rw [Mode.crcSpan_of_extended hc] at hbytes
    rw [State.sealedPkt_of_extended hc, State.sealedPkt_of_extended (hmode ▸ hc), hcrc]
    simp only [Vector.getElem_set]
    split_ifs
    · rfl
    · rfl
    · exact hbytes k hk (by omega)

/-! ## A block that holds only the inputs -/

/-- The block with the registers that `OTA.PACK` reads and everything else of it, `PKT` included, at its reset value
(rules R144, R200). -/
def State.packInputs (s : State) : State :=
  { State.reset with
    otaValid := s.otaValid, otaMode := s.otaMode, ch := s.ch, txArmed := s.txArmed, txTlm := s.txTlm
    otaUplinkPower := s.otaUplinkPower, otaNonce := s.otaNonce, otaTlmDenom := s.otaTlmDenom
    otaCrcInit := s.otaCrcInit, fhssHopInterval := s.fhssHopInterval, swIdx := s.swIdx, auxHalf := s.auxHalf
    tab1 := s.tab1 }

/-- A compact packet before its CRC is made from the inputs and the switch field (rules R121, R204). -/
theorem State.compactPkt_packInputs (s : State) (sw : BitVec 7) {k : Nat} (hk : k < 13) (h7 : k < 7) :
    (s.compactPkt sw)[k] = (s.packInputs.compactPkt sw)[k] := by
  interval_cases k <;> rfl

/-- An extended packet before its CRC is made from the inputs (rules R128, R219). -/
theorem State.extendedPkt_packInputs (s : State) (sixteen : Bool) {k : Nat} (hk : k < 13) (h11 : k < 11) :
    (s.extendedPkt sixteen)[k] = (s.packInputs.extendedPkt sixteen)[k] := by
  interval_cases k <;> rfl

/-- Building makes every byte that the CRC covers from the inputs; neither switch field reads anything else
(rules R203, R210, R215). -/
theorem State.built_pkt_packInputs (s : State) {k : Nat} (hk : k < 13) (hspan : k < s.otaMode.crcSpan) :
    s.built.pkt[k] = s.packInputs.built.pkt[k] := by
  have hmode : s.packInputs.otaMode = s.otaMode := rfl
  cases hm : s.otaMode <;> rw [hm] at hspan <;> simp only [State.built, hmode, hm]
  case compactIndexed => exact s.compactPkt_packInputs s.indexedField hk hspan
  case compactWide => exact s.compactPkt_packInputs s.wideField hk hspan
  case extended => exact s.extendedPkt_packInputs false hk hspan
  case extended16 => exact s.extendedPkt_packInputs true hk hspan

/-- The sealed packet is the one that the inputs give (rule R203). -/
theorem State.built_sealedPkt_packInputs (s : State) {k : Nat} (hk : k < 13) (hlen : k < s.otaMode.pktLen) :
    s.built.sealedPkt[k] = s.packInputs.built.sealedPkt[k] := by
  have hmode : s.built.otaMode = s.packInputs.built.otaMode := by rw [State.built_otaMode, State.built_otaMode]; rfl
  have hbytes : ∀ j (hj : j < 13), j < s.built.otaMode.crcSpan → s.built.pkt[j] = s.packInputs.built.pkt[j] :=
    fun j hj hspan => s.built_pkt_packInputs hj (by rwa [s.built_otaMode] at hspan)
  have hcrc : s.built.pktCrc = s.packInputs.built.pktCrc := by
    apply State.pktCrc_congr hmode (hbytes := hbytes)
    all_goals rw [s.built_frame, s.packInputs.built_frame]; rfl
  exact State.sealedPkt_congr hmode hcrc hbytes hk (by rwa [s.built_otaMode])

/-! ## The command -/

/-- The answer of `OTA.PACK`: its two checks in their order (rules R203, R227). -/
theorem otaPack_result {s t : State} (h : exec .otaPack s = .next t) :
    t.result = if !s.otaValid then .eOtaNocfg
      else if s.otaMode = .compactWide ∧ !s.hopIntervalLegal then .eOtaHopint else .ok := by
  injection h with h
  rw [← h, apply_ite State.result, apply_ite State.result]
  rfl

/-- `OTA.PACK` answers and packs what it would in the block that holds only its inputs (rules R144, R200, R203). -/
theorem otaPack_packInputs {s t u : State} (ht : exec .otaPack s = .next t)
    (hu : exec .otaPack s.packInputs = .next u) :
    t.result = u.result ∧ (t.result = .ok → ∀ k : Fin 13, k.val < s.otaMode.pktLen → t.pkt[k] = u.pkt[k]) := by
  have hresult : t.result = u.result := (otaPack_result ht).trans (otaPack_result hu).symm
  refine ⟨hresult, fun hok k hlen => ?_⟩
  cases accepted_of_exec hok ht
  cases accepted_of_exec (hresult ▸ hok) hu
  exact s.built_sealedPkt_packInputs k.isLt hlen

/-- Settles O42: two blocks that agree on the inputs have one block of inputs, and each packs as that one does. -/
theorem packetDependsOnItsInputsOnly : Obligations.PacketDependsOnItsInputsOnly := by
  intro a b a' b' hvalid hmode hch harmed htlm hpower hnonce hdenom hinit hint hidx hhalf htab ha hb
  have hinputs : a.packInputs = b.packInputs := by
    simp only [State.packInputs, hvalid, hmode, hch, harmed, htlm, hpower, hnonce, hdenom, hinit, hint, hidx, hhalf,
      htab]
  obtain ⟨u, hu⟩ := exec_answers_next .otaPack b.packInputs
  obtain ⟨harest, hapkt⟩ := otaPack_packInputs ha (hinputs ▸ hu)
  obtain ⟨hbrest, hbpkt⟩ := otaPack_packInputs hb hu
  have hresult : a'.result = b'.result := harest.trans hbrest.symm
  refine ⟨hresult, fun hok k hlen => ?_⟩
  calc a'.pkt[k] = u.pkt[k] := hapkt hok k hlen
    _ = b'.pkt[k] := (hbpkt (hresult ▸ hok) k (hmode ▸ hlen)).symm

end Sys2Proof.Machine
end

section
/-! The CRC tables: a division step is linear, so a table entry, a fold step and a whole fold are; and a fold step is
eight division steps of the register with the byte on top, which is what the bit-serial form does one bit at a time
(rules R152, R154, R158, R159, R164). -/

namespace Sys2Proof.Machine

/-! ## The byte on top of the register -/

/-- The byte in the top eight bits of the register, where a division of a byte begins (rule R152). -/
def topByte (w : Nat) (b : Byte) : Hword := truncW w (b.setWidth 16 <<< (w - 8))

theorem tabEntry_eq_iterate (w : Nat) (p : Hword) (b : Byte) : tabEntry w p b = (divStep w p)^[8] (topByte w b) := rfl

theorem topByte_xor (w : Nat) (a b : Byte) : topByte w (a ^^^ b) = topByte w a ^^^ topByte w b := by
  simp only [topByte, BitVec.setWidth_xor, BitVec.shiftLeft_xor_distrib, truncW_xor]

@[simp] theorem topByte_zero (w : Nat) : topByte w 0#8 = 0#16 := by simp [topByte, truncW]

theorem topByte_getLsbD {w : Nat} (h16 : w ≤ 16) (b : Byte) (i : Nat) :
    (topByte w b).getLsbD i = (decide (i < w) && (decide (w - 8 ≤ i) && b.getLsbD (i - (w - 8)))) := by
  rw [topByte, truncW_getLsbD]
  by_cases hi : i < w
  · simp [hi, show i < 16 by omega, ← decide_not]
  · simp [hi]

theorem topByte_getLsbD_top {w : Nat} (h8 : 8 ≤ w) (h16 : w ≤ 16) (b : Byte) :
    (topByte w b).getLsbD (w - 1) = b.getLsbD 7 := by
  rw [topByte_getLsbD h16, show w - 1 - (w - 8) = 7 by omega]
  simp [show w - 1 < w by omega, show w - 8 ≤ w - 1 by omega]

/-- Shifting the register by one shifts the byte on top of it: what leaves the byte leaves the register. -/
theorem truncW_topByte_shiftLeft {w : Nat} (h8 : 8 ≤ w) (h16 : w ≤ 16) (b : Byte) :
    truncW w (topByte w b <<< 1) = topByte w (b <<< 1) := by
  apply BitVec.eq_of_getLsbD_eq
  intro i hi
  rw [truncW_getLsbD, topByte_getLsbD h16, BitVec.getLsbD_shiftLeft, BitVec.getLsbD_shiftLeft, topByte_getLsbD h16]
  by_cases hiw : i < w
  · by_cases hlo : w - 8 < i
    · simp [hi, hiw, hlo.le, show i ≠ 0 by omega, show i - 1 < w by omega, show w - 8 ≤ i - 1 by omega,
        show i - (w - 8) < 8 by omega, show i - (w - 8) ≠ 0 by omega,
        show i - 1 - (w - 8) = i - (w - 8) - 1 by omega]
    · have hout : i = 0 ∨ ¬w - 8 ≤ i - 1 := by omega
      rcases hout with rfl | hout
      · simp
      · simp [hout, show i - (w - 8) = 0 by omega]
  · simp [hiw]

/-- A register is its low bits and the byte on top of them, the byte that a fold step looks up (rule R154). -/
theorem truncW_eq_low_xor_topByte {w : Nat} (h8 : 8 ≤ w) (h16 : w ≤ 16) (c : Hword) :
    truncW w c = truncW (w - 8) c ^^^ topByte w ((c >>> (w - 8)).setWidth 8) := by
  apply BitVec.eq_of_getLsbD_eq
  intro i _
  rw [BitVec.getLsbD_xor, truncW_getLsbD, truncW_getLsbD, topByte_getLsbD h16, BitVec.getLsbD_setWidth,
    BitVec.getLsbD_ushiftRight]
  by_cases hlow : i < w - 8
  · simp [hlow, show i < w by omega, show ¬w - 8 ≤ i by omega]
  · by_cases hiw : i < w
    · simp [hlow, hiw, show w - 8 ≤ i by omega, show i - (w - 8) < 8 by omega,
        show w - 8 + (i - (w - 8)) = i by omega]
    · simp [hlow, hiw]

/-! ## Division steps -/

theorem iterate_divStep_xor (w : Nat) (p : Hword) (k : Nat) (a b : Hword) :
    (divStep w p)^[k] (a ^^^ b) = (divStep w p)^[k] a ^^^ (divStep w p)^[k] b := by
  induction k generalizing a b with
  | zero => rfl
  | succ k ih => simp only [Function.iterate_succ_apply, divStep_xor, ih]

/-- A division step moves the byte on top by one place, and subtracts the polynomial for the bit that leaves. -/
theorem divStep_topByte {w : Nat} (h8 : 8 ≤ w) (h16 : w ≤ 16) (p : Hword) (b : Byte) :
    divStep w p (topByte w b) = if b.getLsbD 7 then topByte w (b <<< 1) ^^^ p else topByte w (b <<< 1) := by
  rw [divStep, topByte_getLsbD_top h8 h16, truncW_topByte_shiftLeft h8 h16]

/-- A division step only shifts a register whose top bit is clear. -/
theorem divStep_truncW {w k : Nat} (hk : k < w) (p c : Hword) :
    divStep w p (truncW k c) = truncW (k + 1) (c <<< 1) := by
  have htop : (truncW k c).getLsbD (w - 1) = false := by
    simp [truncW_getLsbD, show ¬w - 1 < k by omega]
  rw [divStep, htop, if_neg Bool.false_ne_true]
  apply BitVec.eq_of_getLsbD_eq
  intro i hi
  simp only [truncW_getLsbD, BitVec.getLsbD_shiftLeft]
  cases i with
  | zero => simp
  | succ i =>
    have hlt : i < k → i + 1 < w := by omega
    simpa [hi] using fun h _ => hlt h

/-- While the high `k` bits of the register are clear, `k` division steps are a shift by `k`. -/
theorem iterate_divStep_truncW {w k : Nat} (hk : k ≤ w) (p c : Hword) :
    (divStep w p)^[k] (truncW (w - k) c) = truncW w (c <<< k) := by
  induction k generalizing c with
  | zero => simp
  | succ k ih =>
    calc (divStep w p)^[k + 1] (truncW (w - (k + 1)) c)
        = (divStep w p)^[k] (truncW (w - (k + 1) + 1) (c <<< 1)) := by
          rw [Function.iterate_succ_apply, divStep_truncW (by omega)]
      _ = truncW w (c <<< 1 <<< k) := by rw [show w - (k + 1) + 1 = w - k by omega, ih (by omega)]
      _ = truncW w (c <<< (k + 1)) := by rw [← BitVec.shiftLeft_add, Nat.add_comm]

/-! ## The table -/

/-- The legal widths hold a byte and fit the 16-bit cell (rule R156). -/
theorem width_bounds {w : Nat} (h : w ∈ [8, 14, 16]) : 8 ≤ w ∧ w ≤ 16 := by
  simp only [List.mem_cons, List.not_mem_nil, or_false] at h
  omega

theorem tabEntry_xor (w : Nat) (p : Hword) (a b : Byte) :
    tabEntry w p (a ^^^ b) = tabEntry w p a ^^^ tabEntry w p b := by
  simp only [tabEntry_eq_iterate, topByte_xor, iterate_divStep_xor]

theorem tabEntry_zero (w : Nat) (p : Hword) : tabEntry w p 0 = 0 := by
  have h := tabEntry_xor w p 0 0
  rwa [BitVec.xor_self, BitVec.xor_self] at h

/-- Seven division steps bring the one bit of the index 1 to the top of the register, and the eighth leaves the
polynomial. -/
theorem tabEntry_one {w : Nat} (h8 : 8 ≤ w) (h16 : w ≤ 16) (p : Hword) : tabEntry w p 1 = p := by
  have hseven : (divStep w p)^[7] (topByte w 1) = topByte w 0x80 := by
    simp [Function.iterate_succ_apply, divStep_topByte h8 h16]
  calc tabEntry w p 1 = divStep w p ((divStep w p)^[7] (topByte w 1)) := Function.iterate_succ_apply' _ 7 _
    _ = topByte w 0 ^^^ p := by rw [hseven, divStep_topByte h8 h16]; rfl
    _ = p := by simp

theorem tabEntry_shiftLeft_one {w : Nat} (h8 : 8 ≤ w) (h16 : w ≤ 16) (p : Hword) {a : Byte} (ha : a.toNat < 128) :
    tabEntry w p (a <<< 1) = divStep w p (tabEntry w p a) := by
  have htop : a.getLsbD 7 = false := by
    simpa [BitVec.getLsbD] using Nat.testBit_lt_two_pow (i := 7) ha
  have hshift : topByte w (a <<< 1) = divStep w p (topByte w a) := by rw [divStep_topByte h8 h16, htop]; rfl
  calc tabEntry w p (a <<< 1) = (divStep w p)^[8] (divStep w p (topByte w a)) := by rw [tabEntry_eq_iterate, hshift]
    _ = divStep w p (tabEntry w p a) := Function.Commute.iterate_self (divStep w p) 8 _

theorem tabEntry_toNat_lt {w : Nat} {p : Hword} (hp : p.toNat < 2 ^ w) (a : Byte) : (tabEntry w p a).toNat < 2 ^ w := by
  rw [tabEntry_eq_iterate, Function.iterate_succ_apply']
  exact divStep_toNat_lt hp _

/-- Settles O27: each fact is that of the division step, carried through the eight steps of an entry. -/
theorem crcTableFacts : Obligations.CrcTableFacts := by
  intro w p hw hp
  obtain ⟨h8, h16⟩ := width_bounds hw
  exact ⟨tabEntry_zero w p, tabEntry_one h8 h16 p, tabEntry_xor w p, fun _ ha => tabEntry_shiftLeft_one h8 h16 p ha,
    tabEntry_toNat_lt hp⟩

/-! ## The fold step -/

/-- A fold step is eight division steps of the register with the byte on top: the low bits of the register are only
shifted, and the rest is the table entry (rules R152, R154). -/
theorem foldStep_eq_iterate {w : Nat} (h8 : 8 ≤ w) (h16 : w ≤ 16) (p c : Hword) (d : Byte) :
    foldStep w (crcTable w p) c d = (divStep w p)^[8] (truncW w c ^^^ topByte w d) := by
  have hindex : topByte w (foldIndex w c d) = topByte w ((c >>> (w - 8)).setWidth 8) ^^^ topByte w d :=
    topByte_xor w _ d
  calc foldStep w (crcTable w p) c d
      = truncW w (c <<< 8) ^^^ (divStep w p)^[8] (topByte w (foldIndex w c d)) := foldStep_crcTable w p c d
    _ = (divStep w p)^[8] (truncW (w - 8) c ^^^ topByte w (foldIndex w c d)) := by
      rw [iterate_divStep_xor, iterate_divStep_truncW h8]
    _ = (divStep w p)^[8] (truncW w c ^^^ topByte w d) := by
      rw [hindex, truncW_eq_low_xor_topByte h8 h16, BitVec.xor_assoc]

/-- One bit of the bit-serial form is a division step, when what the register still lacks is the byte on top with the
bit that is due as its highest. -/
theorem serialBit_xor_topByte {w : Nat} (h8 : 8 ≤ w) (h16 : w ≤ 16) (p x : Hword) {d e : Byte} {k : Nat}
    (hbit : e.getLsbD 7 = d.getLsbD (7 - k)) :
    serialBit w p d (x ^^^ topByte w e) k = divStep w p x ^^^ topByte w (e <<< 1) := by
  have htop : ((x ^^^ topByte w e).getLsbD (w - 1) ^^ d.getLsbD (7 - k)) = x.getLsbD (w - 1) := by
    rw [BitVec.getLsbD_xor, topByte_getLsbD_top h8 h16, hbit, Bool.xor_assoc, Bool.xor_self, Bool.xor_false]
  have hshift : truncW w ((x ^^^ topByte w e) <<< 1) = truncW w (x <<< 1) ^^^ topByte w (e <<< 1) := by
    rw [BitVec.shiftLeft_xor_distrib, truncW_xor, truncW_topByte_shiftLeft h8 h16]
  rw [serialBit, divStep, htop, hshift]
  split
  · rw [BitVec.xor_assoc, BitVec.xor_assoc, BitVec.xor_comm p]
  · rfl

/-- After `k` bits the bit-serial form has done `k` division steps of the register with the byte on top, and the bits
of the byte that are not yet due are still to be taken away (rule R159). -/
theorem foldl_serialBit {w : Nat} (h8 : 8 ≤ w) (h16 : w ≤ 16) (p c : Hword) (d : Byte) {k : Nat} (hk : k ≤ 8) :
    (List.range k).foldl (serialBit w p d) c = (divStep w p)^[k] (c ^^^ topByte w d) ^^^ topByte w (d <<< k) := by
  induction k with
  | zero => simp
  | succ k ih =>
    have hbit : (d <<< k).getLsbD 7 = d.getLsbD (7 - k) := by
      simp [show 7 - k < 8 by omega, show ¬7 < k by omega]
    rw [List.range_succ, List.foldl_append, ih (by omega), List.foldl_cons, List.foldl_nil,
      serialBit_xor_topByte h8 h16 p _ hbit, Function.iterate_succ_apply', BitVec.shiftLeft_add]

theorem serialStep_eq_iterate {w : Nat} (h8 : 8 ≤ w) (h16 : w ≤ 16) (p c : Hword) (d : Byte) :
    serialStep w p c d = (divStep w p)^[8] (c ^^^ topByte w d) := by
  have hout : topByte w (d <<< 8) = 0#16 := by simp
  rw [serialStep, foldl_serialBit h8 h16 p c d le_rfl, hout, BitVec.xor_zero]

/-- Settles O28: both forms are eight division steps of the register with the byte on top. -/
theorem foldStepIsBitSerial : Obligations.FoldStepIsBitSerial := by
  intro w p c d hw _ hc
  obtain ⟨h8, h16⟩ := width_bounds hw
  rw [foldStep_eq_iterate h8 h16, serialStep_eq_iterate h8 h16, truncW_of_lt hc]

/-! ## The fold -/

theorem foldIndex_xor (w : Nat) (a b : Hword) (x y : Byte) :
    foldIndex w (a ^^^ b) (x ^^^ y) = foldIndex w a x ^^^ foldIndex w b y := by
  simp only [foldIndex, BitVec.ushiftRight_xor_distrib, BitVec.setWidth_xor]
  ac_rfl

theorem foldStep_xor (w : Nat) (p a b : Hword) (x y : Byte) :
    foldStep w (crcTable w p) (a ^^^ b) (x ^^^ y) =
      foldStep w (crcTable w p) a x ^^^ foldStep w (crcTable w p) b y := by
  simp only [foldStep_crcTable, foldIndex_xor, tabEntry_xor, BitVec.shiftLeft_xor_distrib, truncW_xor]
  ac_rfl

theorem foldl_foldStep_xor (w : Nat) (p a b : Hword) {xs ys : List Byte} (h : xs.length = ys.length) :
    (List.zipWith (· ^^^ ·) xs ys).foldl (foldStep w (crcTable w p)) (a ^^^ b) =
      xs.foldl (foldStep w (crcTable w p)) a ^^^ ys.foldl (foldStep w (crcTable w p)) b := by
  induction xs generalizing ys a b with
  | nil =>
    obtain rfl := List.length_eq_zero_iff.mp h.symm
    rfl
  | cons x xs ih =>
    obtain ⟨y, ys, rfl⟩ := List.exists_cons_of_length_eq_add_one h.symm
    simp only [List.zipWith_cons_cons, List.foldl_cons, foldStep_xor]
    exact ih _ _ (Nat.succ.inj h)

/-- Settles O29, by induction on the buffers with the register left free. -/
theorem crcIsLinear : Obligations.CrcIsLinear := by
  intro w p a b xs ys _ _ hlen
  rw [crcFold, truncW_xor, foldl_foldStep_xor w p _ _ hlen, crcFold, crcFold]

end Sys2Proof.Machine
end

section
/-! The commands of the CRC unit: each with its checks in their order and what it leaves when they pass (rules R155,
R160, R161). -/

namespace Sys2Proof.Machine

/-! ## `CRC.INIT` -/

theorem crcWidthLegal_eq_decide (w : Nat) : crcWidthLegal w = decide (w ∈ [8, 14, 16]) := by
  rw [Bool.eq_iff_iff, crcWidthLegal_iff]
  simp

/-- The checks of `CRC.INIT` in their order, then the table (rule R155). -/
theorem exec_crcInit (s : State) :
    exec .crcInit s = .next (
      if s.crcBits.toNat ∉ [8, 14, 16] then s.refuse .eCrcWidth
      else if 2 ^ s.crcBits.toNat ≤ s.crcPoly.toNat then s.refuse .eCrcPoly
      else
        { s with
          result := .ok, tab0 := crcTable s.crcBits.toNat s.crcPoly, crc0Cfg := ⟨s.crcBits, s.crcPoly⟩
          crc0Valid := true }) := by
  simp [exec, execCrcInit, crcWidthLegal_eq_decide, State.accept_eq]

/-- Settles O24: the three outcomes of the two checks, and the entries of the table. -/
theorem crcInitBuildsBankZero : Obligations.CrcInitBuildsBankZero := by
  intro s w
  refine ⟨fun hw => ?_, fun hw hp => ?_, fun hw hp => ?_⟩
  · rw [exec_crcInit, if_pos hw]
  · rw [exec_crcInit, if_neg (not_not_intro hw), if_pos hp]
  · rw [exec_crcInit, if_neg (not_not_intro hw), if_neg (Nat.not_le.mpr hp)]
    exact ⟨_, rfl, rfl, fun i => crcTable_getElem w s.crcPoly i i.isLt⟩

/-! ## `CRC.CALC` -/

/-- The checks of `CRC.CALC` in their order, then the fold (rule R160). -/
theorem exec_crcCalc (b : Bank) (s : State) :
    exec (.crcCalc b) s = .next (
      if !s.bankValid b then s.refuse .eCrcNoinit
      else if 256 < s.crcLen.toNat then s.refuse .eCrcLen
      else
        { s with
          result := .ok
          crcResult := crcFold (s.bankCfg b).width.toNat (s.bankTab b) s.crcInitval
            (s.buf.toList.take s.crcLen.toNat) }) := rfl

theorem exec_crcCalc_of_valid {b : Bank} {s : State} (hvalid : s.bankValid b = true) (hlen : s.crcLen.toNat ≤ 256) :
    exec (.crcCalc b) s = .next { s with
      result := .ok
      crcResult := crcFold (s.bankCfg b).width.toNat (s.bankTab b) s.crcInitval
        (s.buf.toList.take s.crcLen.toNat) } := by
  rw [exec_crcCalc, if_neg (by simp [hvalid]), if_neg (Nat.not_lt.mpr hlen)]

/-- Settles O25: the three outcomes of the two checks. -/
theorem crcCalcFoldsTheBuffer : Obligations.CrcCalcFoldsTheBuffer := by
  intro b s
  refine ⟨fun hvalid => ?_, fun hvalid hlen => ?_, fun hvalid hlen => exec_crcCalc_of_valid hvalid hlen⟩
  · rw [exec_crcCalc, if_pos (by simp [hvalid])]
  · rw [exec_crcCalc, if_neg (by simp [hvalid]), if_pos hlen]

/-- Settles O26: the fold of no bytes is the truncated initial value. -/
theorem crcOfEmptyBufferIsInitialValue : Obligations.CrcOfEmptyBufferIsInitialValue := by
  intro b s hvalid hzero
  refine ⟨_, exec_crcCalc_of_valid hvalid (by simp [hzero]), ?_⟩
  simp [hzero, truncW_toNat]

end Sys2Proof.Machine
end

section
/-! The commands of the FHSS unit: the schedule of a build by its entries (rules R175, R180), the two commands with their
checks in their order and what they leave when these pass (rules R175, R185), and the lockstep of two blocks (rules R177,
R191). -/

namespace Sys2Proof.Machine

/-! ## The entries of a well-formed schedule -/

theorem blockEntries_mod (seq : Vector Byte 256) {n : Nat} (hn : 0 < n) (i : Nat) :
    blockEntries seq n (i / n) ⟨i % n, Nat.mod_lt i hn⟩ = scheduleEntry seq i := by
  rw [blockEntries, Nat.div_add_mod']

/-- The block of a position is a permutation of the channels (rule R180). -/
theorem WellFormedSchedule.block_perm {seq : Vector Byte 256} {n i : Nat} (h : WellFormedSchedule seq n)
    (hn : 0 < n) (hi : i < 256 / n * n) : (List.ofFn (blockEntries seq n (i / n))).Perm (List.range n) :=
  (((wellFormedSchedule_iff hn).mp h).1 (i / n) (Nat.div_lt_of_lt_mul (by rwa [Nat.mul_comm]))).2

/-- The entries of a well-formed schedule are channels of the domain (rule R180). -/
theorem WellFormedSchedule.entry_lt {seq : Vector Byte 256} {n i : Nat} (h : WellFormedSchedule seq n)
    (hn : 0 < n) (hi : i < 256 / n * n) : scheduleEntry seq i < n :=
  List.mem_range.mp <| (h.block_perm hn hi).subset <| List.mem_ofFn.mpr ⟨_, blockEntries_mod seq hn i⟩

/-- Within a block all entries differ (rule R180). -/
theorem WellFormedSchedule.eq_of_entry_eq {seq : Vector Byte 256} {n i j : Nat} (h : WellFormedSchedule seq n)
    (hn : 0 < n) (hi : i < 256 / n * n) (hblock : j / n = i / n) (he : scheduleEntry seq i = scheduleEntry seq j) :
    i = j := by
  have hinj := List.nodup_ofFn.mp ((h.block_perm hn hi).nodup_iff.mpr List.nodup_range)
  rw [← blockEntries_mod seq hn i, ← blockEntries_mod seq hn j, hblock] at he
  have hmod : i % n = j % n := Fin.mk.inj (hinj he)
  rw [← Nat.div_add_mod' i n, ← Nat.div_add_mod' j n, hblock, hmod]

/-- The next position, cyclically, is in the same block or starts one (rule R180). -/
theorem next_position_cases {n i : Nat} (hn : 2 ≤ n) (hi : i < 256 / n * n) :
    (i + 1) % (256 / n * n) / n = i / n ∧ (i + 1) % (256 / n * n) = i + 1 ∨
      (i + 1) % (256 / n * n) % n = 0 ∧ i % n ≠ 0 := by
  by_cases hstart : n ∣ i + 1
  · refine .inr ⟨?_, fun hi0 => ?_⟩
    · rw [Nat.mod_mod_of_dvd _ (Nat.dvd_mul_left n _), Nat.mod_eq_zero_of_dvd hstart]
    · have := Nat.le_of_dvd Nat.one_pos ((Nat.dvd_add_right (Nat.dvd_of_mod_eq_zero hi0)).mp hstart)
      omega
  · have hne : i + 1 ≠ 256 / n * n := fun he => hstart (he ▸ Nat.dvd_mul_left n _)
    rw [Nat.mod_eq_of_lt (by omega)]
    exact .inl ⟨Nat.succ_div_of_not_dvd hstart, rfl⟩

/-- No two cyclically adjacent entries are equal: inside a block all entries differ, and a block starts on the sync
channel while no block ends on it (rule R180). -/
theorem WellFormedSchedule.entry_ne_next {seq : Vector Byte 256} {n i : Nat} (h : WellFormedSchedule seq n)
    (hn : 2 ≤ n) (hi : i < 256 / n * n) :
    scheduleEntry seq i ≠ scheduleEntry seq ((i + 1) % (256 / n * n)) := by
  have hpos : 0 < n := by omega
  intro he
  rcases next_position_cases hn hi with ⟨hblock, hnext⟩ | ⟨hstart, hinside⟩
  · have := h.eq_of_entry_eq hpos hi hblock he
    omega
  · have hsync := (h.entry_eq_sync_iff hpos (Nat.mod_lt _ (Nat.zero_lt_of_lt hi))).mpr hstart
    exact hinside ((h.entry_eq_sync_iff hpos hi).mp (he.trans hsync))

/-- Settles O31: the build is well formed, and a well-formed schedule has the other properties. -/
theorem builtScheduleWellFormed : Obligations.BuiltScheduleWellFormed := by
  intro seed n hn h256
  have hwf := buildSeq_wellFormed seed hn h256
  have hpos : 0 < n := by omega
  refine ⟨hwf, fun i hi hlen => ?_, fun i j hi hj hlen hnext => ?_⟩
  · rw [← scheduleEntry_of_lt _ hi]
    exact ⟨hwf.entry_lt hpos hlen, hwf.entry_eq_sync_iff hpos hlen⟩
  · subst hnext
    rw [← BitVec.toNat_ne_iff_ne, ← scheduleEntry_of_lt _ hi, ← scheduleEntry_of_lt _ hj]
    exact hwf.entry_ne_next hn hlen

/-! ## `FHSS.BUILD` -/

/-- The state with the schedule of its seed and domain, the pointer at its start (rule R175). -/
def State.withSchedule (s : State) : State :=
  { s with
    result := .ok
    seq := buildSeq s.fhssSeed s.fhssFreqCount.toNat
    fhssSeqCount := BitVec.ofNat 9 (seqCount s.fhssFreqCount.toNat)
    fhssActCount := s.fhssFreqCount
    fhssSync := BitVec.ofNat 8 (syncChan s.fhssFreqCount.toNat)
    fhssActStart := s.fhssFreqStart
    fhssSpread := freqSpread s.fhssFreqStart s.fhssFreqStop s.fhssFreqCount.toNat
    fhssPtr := 0
    fhssValid := true }

/-- The checks of `FHSS.BUILD` in their order, then the schedule (rule R175). -/
theorem exec_fhssBuild (s : State) :
    exec .fhssBuild s = .next (
      if s.txInflight then s.refuse .eTxInflight
      else if !s.fhssDomainLegal then s.refuse .eFhssDomain
      else s.withSchedule) := rfl

theorem accepted_fhssBuild_iff {s t : State} :
    Accepted s .fhssBuild t ↔ s.fhssDomainLegal = true ∧ t = s.withSchedule := by
  constructor
  · rintro ⟨⟩
    exact ⟨‹_›, rfl⟩
  · rintro ⟨hdomain, rfl⟩
    exact .fhssBuild hdomain

theorem State.withSchedule_scheduleMatches {s : State} (hdomain : s.fhssDomainLegal = true) :
    s.withSchedule.ScheduleMatches := fhssBuild_scheduleMatches (accepted_fhssBuild_iff.mpr ⟨hdomain, rfl⟩)

/-- Settles O30: the three outcomes of the two checks; the registers have their values because the schedule matches
them. -/
theorem fhssBuildSetsTheSchedule : Obligations.FhssBuildSetsTheSchedule := by
  intro s n start stop
  rw [exec_fhssBuild]
  refine ⟨fun htx => ?_, fun htx hillegal => ?_, fun htx hn h256 hle hspan => ?_⟩
  · rw [if_pos htx]
  · have hdomain : s.fhssDomainLegal = false := by
      rw [← Bool.not_eq_true, s.fhssDomainLegal_iff]
      omega
    simp [htx, hdomain]
  · have hdomain : s.fhssDomainLegal = true := s.fhssDomainLegal_iff.mpr ⟨hn, h256, hle, hspan⟩
    obtain ⟨-, -, hlen, hsync, -, -⟩ :=
      (scheduleMatches_iff_of_valid rfl).mp (State.withSchedule_scheduleMatches hdomain)
    exact ⟨s.withSchedule, by simp [htx, hdomain], rfl, rfl, hlen, rfl, hsync, rfl, freqSpread_toNat _ hspan, rfl, rfl⟩

/-! ## `FHSS.HOP` -/

/-- The check of `FHSS.HOP`, then one hop (rule R185). -/
theorem exec_fhssHop (s : State) :
    exec .fhssHop s = .next (if !s.fhssValid then s.refuse .eFhssNoseq else s.hopped 1) := rfl

/-- Settles O32: the two outcomes of the check. -/
theorem fhssHopAdvancesThePointer : Obligations.FhssHopAdvancesThePointer := by
  intro s
  rw [exec_fhssHop]
  refine ⟨fun hvalid => by simp [hvalid], fun hvalid hlen hptr => ?_⟩
  exact ⟨s.hopped 1, by simp [hvalid], rfl, State.hopped_ptr hlen (Nat.zero_lt_of_lt hptr) 1⟩

/-! ## Lockstep -/

/-- Only the low 31 bits of the seed matter (rule R177). -/
theorem buildSeq_congr {a b : BitVec 32} (h : a.toNat % 2 ^ 31 = b.toNat % 2 ^ 31) (n : Nat) :
    buildSeq a n = buildSeq b n := by
  have hseed : a.setWidth 31 = b.setWidth 31 := BitVec.eq_of_toNat_eq (by simpa using h)
  rw [buildSeq, buildSeq, hseed]

/-- `FHSS_CHAN` looks at the schedule and the pointer (rule R52). -/
theorem State.fhssChan_congr {s t : State} (hseq : s.seq = t.seq) (hptr : s.fhssPtr = t.fhssPtr) :
    s.fhssChan = t.fhssChan := by
  simp only [State.fhssChan, hseq, hptr]

/-- After an accepted build `k` writes of `FHSS.HOP` move the pointer by `k` (rules R175, R185). -/
theorem run_issuing_hop_withSchedule {s : State} (hdomain : s.fhssDomainLegal = true) (k : Nat) :
    Host.Core.run Sys2Proof.core k (s.withSchedule.issuing k 0x21#32) =
      .next ((s.withSchedule.hopped k).issuing 0 0x21#32) := by
  obtain ⟨-, -, hlen, -, hptr, -⟩ :=
    (scheduleMatches_iff_of_valid rfl).mp (State.withSchedule_scheduleMatches hdomain)
  exact run_issuing_hop k rfl (hlen ▸ schedule_length_le _) hptr

/-- Settles O34: both builds give the same schedule with the pointer at its start, and both pointers move alike. -/
theorem sameSeedKeepsLockstep : Obligations.SameSeedKeepsLockstep := by
  intro a b a' b' k hseed hcount ha hoka hb hokb
  obtain ⟨hda, rfl⟩ := accepted_fhssBuild_iff.mp (accepted_of_exec hoka ha)
  obtain ⟨hdb, rfl⟩ := accepted_fhssBuild_iff.mp (accepted_of_exec hokb hb)
  have hseq : a.withSchedule.seq = b.withSchedule.seq := by
    simp only [State.withSchedule, hcount, buildSeq_congr hseed]
  have hptr : (a.withSchedule.hopped k).fhssPtr = (b.withSchedule.hopped k).fhssPtr := by
    simp only [State.hopped, State.withSchedule, hcount]
  exact ⟨_, _, run_issuing_hop_withSchedule hda k, run_issuing_hop_withSchedule hdb k, hseq, hptr,
    State.fhssChan_congr hseq hptr⟩

end Sys2Proof.Machine
end

section
/-! The checks of the OTA commands in their order, and what `OTA.CONFIG` leaves when its checks pass (rules R201, R203,
R227, R230, R251, R255). -/

namespace Sys2Proof.Machine

/-! ## `OTA.CONFIG` -/

/-- The checks of `OTA.CONFIG` in their order, then the swap (rule R201). -/
theorem exec_otaConfig (n : Nat) (s : State) :
    exec (.otaConfig n) s = .next (
      if s.txInflight then s.refuse .eTxInflight
      else (modeOfOperand n).elim (s.refuse .eOtaMode) fun m => (s.configured m).accept) := by
  rw [exec, execOtaConfig]
  cases modeOfOperand n <;> rfl

theorem exec_otaConfig_of_mode {s : State} (htx : s.txInflight = false) (m : Mode) :
    exec (.otaConfig m.code.toNat) s = .next (s.configured m).accept := by
  rw [exec_otaConfig, modeOfOperand_eq_some_iff.mpr rfl, htx]
  rfl

theorem exists_mode_of_le {n : Nat} (h : n ≤ 3) : ∃ m : Mode, m.code.toNat = n := by
  obtain ⟨m, hm⟩ := Option.ne_none_iff_exists'.mp (mt modeOfOperand_eq_none_iff.mp (Nat.not_lt.mpr h))
  exact ⟨m, (modeOfOperand_eq_some_iff.mp hm).symm⟩

/-- The compact family is the modes 0 and 1 (rule R105). -/
theorem Mode.isCompact_iff (m : Mode) : m.isCompact = true ↔ m.code.toNat ≤ 1 := by
  cases m <;> decide

theorem Mode.bankCfg_of_compact {m : Mode} (h : m.isCompact = true) : m.bankCfg = ⟨14, 0x2E57#16⟩ := by
  rw [Mode.bankCfg, if_pos h]
  rfl

theorem Mode.bankCfg_of_extended {m : Mode} (h : m.isCompact = false) : m.bankCfg = ⟨16, 0x3D65#16⟩ := by
  rw [Mode.bankCfg, h]
  rfl

/-- The configuration of a mode reaches bank 1 with the table that it determines (rules R153, R201). -/
theorem State.configured_bank1 (s : State) {m : Mode} {c : BankCfg} (h : m.bankCfg = c) :
    (s.configured m).crc1Cfg = c ∧
      ∀ i : Fin 256, (s.configured m).tab1[i] = tabEntry c.width.toNat c.poly (BitVec.ofNat 8 i.val) := by
  subst h
  exact ⟨rfl, fun i => crcTable_getElem _ _ i i.isLt⟩

/-- Settles O37: the three outcomes of the two checks, and bank 1 by the family of the mode. -/
theorem otaConfigSwapsTheCodec : Obligations.OtaConfigSwapsTheCodec := by
  intro n s
  refine ⟨fun htx => ?_, fun htx hn => ?_, fun htx hn => ?_⟩
  · rw [exec_otaConfig, if_pos htx]
  · rw [exec_otaConfig, modeOfOperand_eq_none_iff.mpr hn, htx]
    rfl
  · obtain ⟨m, rfl⟩ := exists_mode_of_le hn
    refine ⟨_, exec_otaConfig_of_mode htx m, rfl, rfl, fun h1 => ?_, fun h2 => ?_⟩
    · exact s.configured_bank1 (Mode.bankCfg_of_compact (m.isCompact_iff.mpr h1))
    · refine s.configured_bank1 (Mode.bankCfg_of_extended ?_)
      rw [← Bool.not_eq_true, m.isCompact_iff]
      omega

/-! ## The checks that `OTA.SEAL`, `OTA.VALIDATE` and `OTA.UNPACK` share -/

/-- What a command answers that would leave `u` once the checks on `s` have passed: a mode must be selected, and the
hop interval must be legal where the packet CRC needs the hop-sync value (rules R230, R251, R255). -/
def State.checked (s u : State) : State :=
  if !s.otaValid then s.refuse .eOtaNocfg
  else if s.needsHopSync ∧ !s.hopIntervalLegal then s.refuse .eOtaHopint
  else u

theorem State.checked_of_noMode {s : State} (h : s.otaValid = false) (u : State) :
    s.checked u = s.refuse .eOtaNocfg := by
  simp [State.checked, h]

theorem State.checked_of_hopRefused {s : State} (hvalid : s.otaValid = true) (h : s.HopRefused) (u : State) :
    s.checked u = s.refuse .eOtaHopint := by
  rw [State.checked, if_neg (by simp [hvalid]), if_pos (s.hopRefused_iff.mp h)]

theorem State.checked_of_passed {s : State} (hvalid : s.otaValid = true) (h : ¬s.HopRefused) (u : State) :
    s.checked u = u := by
  rw [State.checked, if_neg (by simp [hvalid]), if_neg (mt s.hopRefused_iff.mpr h)]

/-- An answer `OK` says that the checks have passed. -/
theorem State.passed_of_checked_ok {s u : State} (hok : (s.checked u).result = .ok) :
    s.otaValid = true ∧ ¬s.HopRefused := by
  have hvalid : s.otaValid = true := by
    by_contra h
    rw [State.checked_of_noMode (by simpa using h)] at hok
    cases hok
  refine ⟨hvalid, fun h => ?_⟩
  rw [State.checked_of_hopRefused hvalid h] at hok
  cases hok

theorem exec_otaSeal (s : State) : exec .otaSeal s = .next (s.checked s.withSeal.accept) := rfl

theorem exec_otaValidate (s : State) :
    exec .otaValidate s = .next (s.checked { s with result := .ok, crcOk := s.crcMatches }) := rfl

/-- After its checks `OTA.UNPACK` drops the packet, leaves it undecoded or decodes it (rules R255 to R257). -/
theorem exec_otaUnpack (s : State) :
    exec .otaUnpack s = .next (s.checked (
      if !s.crcMatches then { s with result := .ok, crcOk := false, rxUpdated := false }
      else if !s.pktIsRc then { s with result := .ok, crcOk := true, rxUpdated := false }
      else { s.unpacked with result := .ok, crcOk := true, rxUpdated := true })) := rfl

/-! ## The checks of `OTA.PACK` -/

/-- The checks of `OTA.PACK` in their order, then the packet; `PKT` is not looked at (rules R203, R227). -/
theorem exec_otaPack (s : State) :
    exec .otaPack s = .next (
      if !s.otaValid then s.refuse .eOtaNocfg
      else if s.otaMode = .compactWide ∧ !s.hopIntervalLegal then s.refuse .eOtaHopint
      else s.built.withSeal.accept) := rfl

theorem State.hopReady_iff (s : State) : s.HopReady ↔ ¬(s.otaMode = .compactWide ∧ (!s.hopIntervalLegal) = true) := by
  rw [State.HopReady, ← s.hopIntervalLegal_iff]
  simp

theorem exec_otaPack_of_ready {s : State} (hvalid : s.otaValid = true) (h : s.HopReady) :
    exec .otaPack s = .next s.built.withSeal.accept := by
  rw [exec_otaPack, if_neg (by simp [hvalid]), if_neg (s.hopReady_iff.mp h)]

theorem exec_otaPack_of_not_ready {s : State} (hvalid : s.otaValid = true) (h : ¬s.HopReady) :
    exec .otaPack s = .next (s.refuse .eOtaHopint) := by
  rw [exec_otaPack, if_neg (by simp [hvalid]), if_pos (not_not.mp (mt s.hopReady_iff.mpr h))]

/-- Modes other than mode 1 do not need the hop interval (rule R227). -/
theorem State.hopReady_of_ne {s : State} (h : s.otaMode ≠ .compactWide) : s.HopReady := fun hwide => absurd hwide h

/-- Settles O38: the refusing branches of the checks. -/
theorem otaPackAndUnpackRefusals : Obligations.OtaPackAndUnpackRefusals := by
  intro s
  refine ⟨fun hvalid => ⟨?_, ?_⟩, fun hvalid hwide hint => ?_, fun hvalid hhop => ?_⟩
  · rw [exec_otaPack, if_pos (by simp [hvalid])]
  · rw [exec_otaUnpack, State.checked_of_noMode hvalid]
  · exact exec_otaPack_of_not_ready hvalid fun h => hint (h hwide)
  · rw [exec_otaUnpack, State.checked_of_hopRefused hvalid hhop]

end Sys2Proof.Machine
end

section
/-! The packet CRC and its field: what the CRC is computed from byte by byte, and that sealing stores it where it is
read back (rules R225, R226, R229, R252). -/

namespace Sys2Proof.Machine

/-! ## The bytes under the CRC -/

theorem toList_take_seven_drop_one (p : Vector Byte 13) :
    (p.toList.take 7).drop 1 = [p[1], p[2], p[3], p[4], p[5], p[6]] := by
  refine List.ext_getElem (by simp) fun k _ hk => ?_
  have hk : k < 6 := hk
  interval_cases k <;> simp

theorem toList_take_eleven (p : Vector Byte 13) :
    p.toList.take 11 = [p[0], p[1], p[2], p[3], p[4], p[5], p[6], p[7], p[8], p[9], p[10]] := by
  refine List.ext_getElem (by simp) fun k _ hk => ?_
  have hk : k < 11 := hk
  interval_cases k <;> simp

theorem truncW_toNat_lt (w : Nat) (v : Hword) : (truncW w v).toNat < 2 ^ w := by
  rw [truncW_toNat]
  exact Nat.mod_lt _ (Nat.two_pow_pos w)

theorem truncW_fourteen (v : Hword) : truncW 14 v = v &&& 0x3FFF#16 := by
  apply BitVec.eq_of_toNat_eq
  rw [truncW_toNat, BitVec.toNat_and]
  exact (Nat.and_two_pow_sub_one_eq_mod v.toNat 14).symm

theorem truncW_sixteen (v : Hword) : truncW 16 v = v := truncW_of_lt v.isLt

/-- `SUB` as the rule writes it: the low six bits of what `FHSS_HOPSYNC` reads, or 0 (rule R226). -/
theorem State.crcSub_eq (s : State) :
    s.crcSub = if s.otaMode = .compactWide ∧ s.pkt[0].extractLsb' 0 2 = 0b00#2 then
      (s.readLoc (.reg .fhssHopSync)).extractLsb' 0 6 else 0 := by
  have hread : (s.readLoc (.reg .fhssHopSync)).extractLsb' 0 6 = s.hopSync.setWidth 6 := by
    apply BitVec.eq_of_toNat_eq
    simp [State.readLoc, State.readReg, zext]
  simp only [State.crcSub, s.needsHopSync_iff, hread]

/-- The compact CRC, byte by byte (rule R225). -/
theorem State.pktCrc_eq_of_compact {s : State} (h : s.otaMode.isCompact = true) :
    s.pktCrc = [s.crcHeader, s.pkt[1], s.pkt[2], s.pkt[3], s.pkt[4], s.pkt[5], s.pkt[6]].foldl (foldStep 14 s.tab1)
      (s.otaCrcInit &&& 0x3FFF#16) := by
  rw [State.pktCrc_of_compact h, toList_take_seven_drop_one, crcFold, truncW_fourteen]

/-- The extended CRC, byte by byte (rule R225). -/
theorem State.pktCrc_eq_of_extended {s : State} (h : s.otaMode.isCompact = false) :
    s.pktCrc = [s.pkt[0], s.pkt[1], s.pkt[2], s.pkt[3], s.pkt[4], s.pkt[5], s.pkt[6], s.pkt[7], s.pkt[8], s.pkt[9],
      s.pkt[10]].foldl (foldStep 16 s.tab1) s.otaCrcInit := by
  rw [State.pktCrc_of_extended h, toList_take_eleven, crcFold, truncW_sixteen]

/-! ## The field in the packet -/

theorem State.sealedPkt_crc_of_compact {s : State} (h : s.otaMode.isCompact = true) :
    s.sealedPkt[0] = s.pktCrc.extractLsb' 8 6 ++ s.pkt[0].extractLsb' 0 2 ∧
      s.sealedPkt[7] = s.pktCrc.extractLsb' 0 8 := by
  rw [State.sealedPkt_of_compact h]
  exact ⟨by simp, by simp⟩

theorem State.sealedPkt_crc_of_extended {s : State} (h : s.otaMode.isCompact = false) :
    s.sealedPkt[11] = s.pktCrc.extractLsb' 0 8 ∧ s.sealedPkt[12] = s.pktCrc.extractLsb' 8 8 := by
  rw [State.sealedPkt_of_extended h]
  exact ⟨by simp, by simp⟩

/-- The header that a compact CRC is computed with looks at the type bits of the header byte alone (rules R225,
R226). -/
theorem State.crcHeader_withSeal {s : State} (h : s.otaMode.isCompact = true) : s.withSeal.crcHeader = s.crcHeader := by
  have htype := State.sealedPkt_type_of_compact h
  have hneed : s.withSeal.needsHopSync = s.needsHopSync := by
    rw [State.needsHopSync, State.needsHopSync, State.pktIsRc, State.pktIsRc, s.withSeal_pkt, htype, s.withSeal_otaMode]
  have hsync : s.withSeal.hopSync = s.hopSync := rfl
  rw [State.crcHeader, State.crcHeader, State.crcSub, State.crcSub, hneed, hsync, s.withSeal_pkt, htype]

/-- Sealing leaves the CRC of the packet, which does not cover its own field (rules R225, R229). -/
theorem State.pktCrc_withSeal (s : State) : s.withSeal.pktCrc = s.pktCrc := by
  cases hc : s.otaMode.isCompact with
  | true =>
    have hbyte {k : Nat} (hk : k < 13) : k ≠ 0 → k ≠ 7 → s.withSeal.pkt[k] = s.pkt[k] :=
      State.sealedPkt_getElem_of_compact hc hk
    simp [State.pktCrc_eq_of_compact (s := s.withSeal) hc, State.pktCrc_eq_of_compact hc, State.crcHeader_withSeal hc,
      hbyte, -State.withSeal_pkt]
  | false =>
    refine State.pktCrc_congr rfl rfl rfl rfl rfl fun k hk hspan => State.sealedPkt_getElem_of_extended hc hk ?_ ?_
    all_goals
      have : k < 11 := Mode.crcSpan_of_extended hc ▸ hspan
      omega

theorem extractLsb'_append_low {n : Nat} (v : Hword) (h : v.toNat < 2 ^ (n + 8)) :
    (v.extractLsb' 8 n ++ v.extractLsb' 0 8).toNat = v.toNat := by
  have hhigh : v.toNat / 2 ^ 8 < 2 ^ n := Nat.div_lt_of_lt_mul (by rwa [← pow_add, Nat.add_comm])
  simp only [append_toNat, BitVec.extractLsb'_toNat, Nat.shiftRight_eq_div_pow, Nat.mod_eq_of_lt hhigh, pow_zero,
    Nat.div_one]
  exact Nat.div_add_mod' v.toNat (2 ^ 8)

/-- The stored field of a sealed packet is the CRC, if that fits the field (rules R229, R252). -/
theorem State.storedCrc_withSeal {s : State} (h : s.otaMode.isCompact = true → s.pktCrc.toNat < 2 ^ 14) :
    s.withSeal.storedCrc = s.pktCrc := by
  apply BitVec.eq_of_toNat_eq
  cases hc : s.otaMode.isCompact with
  | true =>
    obtain ⟨h0, h7⟩ := State.sealedPkt_crc_of_compact hc
    rw [State.storedCrc_of_compact (s := s.withSeal) hc, s.withSeal_pkt, h0, h7,
      BitVec.extractLsb'_append_eq_left, BitVec.toNat_setWidth_of_le (by decide),
      extractLsb'_append_low s.pktCrc (h hc)]
  | false =>
    obtain ⟨h11, h12⟩ := State.sealedPkt_crc_of_extended hc
    rw [State.storedCrc_of_extended (s := s.withSeal) hc, s.withSeal_pkt, h11, h12,
      extractLsb'_append_low s.pktCrc s.pktCrc.isLt]

/-! ## The width of the CRC -/

theorem foldStep_toNat_lt {w : Nat} {p : Hword} (hp : p.toNat < 2 ^ w) (c : Hword) (d : Byte) :
    (foldStep w (crcTable w p) c d).toNat < 2 ^ w := by
  rw [foldStep_crcTable]
  exact xor_toNat_lt (truncW_toNat_lt w _) (tabEntry_toNat_lt hp _)

theorem foldl_foldStep_toNat_lt {w : Nat} {p c : Hword} (hp : p.toNat < 2 ^ w) (hc : c.toNat < 2 ^ w)
    (ds : List Byte) : (ds.foldl (foldStep w (crcTable w p)) c).toNat < 2 ^ w := by
  induction ds generalizing c with
  | nil => exact hc
  | cons d ds ih => exact ih (foldStep_toNat_lt hp c d)

theorem State.Bank1Matches.tab1_of_compact {s : State} (h : s.Bank1Matches) (hvalid : s.otaValid = true)
    (hc : s.otaMode.isCompact = true) : s.tab1 = crcTable 14 0x2E57#16 := by
  obtain ⟨-, hbank⟩ := h
  rw [if_pos hvalid, Mode.bankCfg_of_compact hc] at hbank
  exact hbank.2

/-- The compact CRC fits its 14-bit field (rules R201, R225). -/
theorem State.Bank1Matches.pktCrc_toNat_lt {s : State} (h : s.Bank1Matches) (hvalid : s.otaValid = true)
    (hc : s.otaMode.isCompact = true) : s.pktCrc.toNat < 2 ^ 14 := by
  rw [State.pktCrc_eq_of_compact hc, h.tab1_of_compact hvalid hc, ← truncW_fourteen]
  exact foldl_foldStep_toNat_lt (by decide) (truncW_toNat_lt 14 _) _

/-- A sealed packet carries its own CRC (rules R229, R253). -/
theorem State.Bank1Matches.storedCrc_withSeal {s : State} (h : s.Bank1Matches) (hvalid : s.otaValid = true) :
    s.withSeal.storedCrc = s.withSeal.pktCrc := by
  rw [State.storedCrc_withSeal (h.pktCrc_toNat_lt hvalid), s.pktCrc_withSeal]

/-! ## `OTA.SEAL` -/

theorem exec_otaSeal_of_passed {s : State} (hvalid : s.otaValid = true) (h : ¬s.HopRefused) :
    exec .otaSeal s = .next s.withSeal.accept := by
  rw [exec_otaSeal, State.checked_of_passed hvalid h]

/-- Settles O43: the CRC of the two families, the refusals of the shared checks, and the two bytes that are stored. -/
theorem otaSealStoresTheCrc : Obligations.OtaSealStoresTheCrc := by
  intro s type sub
  have hheader : s.crcHeader = sub ++ type := by rw [State.crcHeader, s.crcSub_eq]
  refine ⟨fun hc => ?_, fun hc => State.pktCrc_eq_of_extended hc, fun hvalid => ?_, fun hvalid hhop => ?_,
    fun hvalid hhop => ⟨_, exec_otaSeal_of_passed hvalid hhop, rfl, fun hc => ?_, fun hc => ?_⟩⟩
  · rw [State.pktCrc_eq_of_compact hc, hheader]
  · rw [exec_otaSeal, State.checked_of_noMode hvalid]
  · rw [exec_otaSeal, State.checked_of_hopRefused hvalid hhop]
  · obtain ⟨h0, h7⟩ := State.sealedPkt_crc_of_compact hc
    exact ⟨h0, h7, fun k => State.sealedPkt_getElem_of_compact hc k.isLt⟩
  · obtain ⟨h11, h12⟩ := State.sealedPkt_crc_of_extended hc
    exact ⟨h11, h12, fun k => State.sealedPkt_getElem_of_extended hc k.isLt⟩

end Sys2Proof.Machine
end

section
/-! `OTA.PACK`: the bytes of the packet that each mode builds, read back from the sealed packet (rules R204 to R223,
R229). -/

namespace Sys2Proof.Machine

/-! ## Fields of a byte -/

theorem shiftLeft_or_eq_add {a b n : Nat} (h : b < 2 ^ n) : a <<< n ||| b = 2 ^ n * a + b := by
  rw [← Nat.shiftLeft_add_eq_or_of_lt h, Nat.shiftLeft_eq, Nat.mul_comm]

theorem flag_or_six_bits {v : Nat} (flag : Bool) (h : v < 64) :
    (BitVec.ofNat 7 ((flag.toNat <<< 6) ||| v)).toNat = 64 * flag.toNat + v := by
  have := flag.toNat_le
  rw [shiftLeft_or_eq_add (n := 6) h, BitVec.toNat_ofNat]
  exact Nat.mod_eq_of_lt (by omega)

/-- The index 6 is even, so the 4-bit value of the last switch does not meet the index bits (rule R210). -/
theorem index_or_value {i v : Nat} (h : v < if i = 6 then 16 else 8) : (i <<< 3) ||| v = 8 * i + v := by
  by_cases hi : i = 6
  · subst hi
    exact shiftLeft_or_eq_add (a := 3) (n := 4) h
  · rw [if_neg hi] at h
    exact shiftLeft_or_eq_add (n := 3) h

theorem index_and_value_lt {i v : Nat} (hi : i < 7) (h : v < if i = 6 then 16 else 8) : 8 * i + v < 64 := by
  split at h <;> omega

theorem powerField_toNat (p : BitVec 6) : (powerField p).toNat = min (max p.toNat 1) 8 - 1 := by
  rw [powerField, BitVec.toNat_ofNat, clamp, Nat.mod_eq_of_lt (by omega)]

/-- The value in the switch field of the Indexed policy, 3 bits wide or, at index 6, 4 bits (rule R210). -/
theorem indexedValue_lt (s : State) :
    (if s.swIdx.toNat = 6 then toN s.ch[11] 16 else toN s.ch[switchChan s.swIdx] 8) <
      if s.swIdx.toNat = 6 then 16 else 8 := by
  split
  · exact toN_lt (by decide) _
  · exact toN_lt (by decide) _

theorem State.indexedField_toNat {s : State} (h : s.CursorInCycle) :
    s.indexedField.toNat = 64 * s.txTlm.toNat + 8 * s.swIdx.toNat +
      if s.swIdx.toNat = 6 then toN s.ch[11] 16 else toN s.ch[switchChan s.swIdx] 8 := by
  have hv := indexedValue_lt s
  rw [State.indexedField, Nat.or_assoc, index_or_value hv, flag_or_six_bits _ (index_and_value_lt h hv), Nat.add_assoc]

/-- At index 7 the Wide policy sends the power (rule R215). -/
theorem State.wideField_toNat_of_seven {s : State} (h : (wideIndex s.otaNonce).toNat = 7) :
    s.wideField.toNat = 64 * s.txTlm.toNat + s.otaUplinkPower.toNat := by
  rw [State.wideField, if_pos (BitVec.eq_of_toNat_eq h), flag_or_six_bits _ s.otaUplinkPower.isLt]

theorem State.wideField_of_ne_seven {s : State} (h : (wideIndex s.otaNonce).toNat ≠ 7) :
    s.wideField =
      if s.tlmEvery then BitVec.ofNat 7 ((s.txTlm.toNat <<< 6) ||| toN s.ch[switchChan (wideIndex s.otaNonce)] 64)
      else BitVec.ofNat 7 (toN s.ch[switchChan (wideIndex s.otaNonce)] 128) :=
  if_neg fun h7 => h (congrArg BitVec.toNat h7)

/-- Where the telemetry bit travels in every packet it takes the place of the value's lowest bit (rule R216). -/
theorem State.wideField_toNat_of_every {s : State} (h : (wideIndex s.otaNonce).toNat ≠ 7)
    (hevery : 1 < s.otaTlmDenom.toNat ∧ s.otaTlmDenom.toNat < 8) :
    s.wideField.toNat = 64 * s.txTlm.toNat + toN s.ch[switchChan (wideIndex s.otaNonce)] 64 := by
  rw [State.wideField_of_ne_seven h, if_pos (by simpa [State.tlmEvery] using hevery),
    flag_or_six_bits _ (toN_lt (by decide) _)]

theorem State.wideField_toNat_of_not_every {s : State} (h : (wideIndex s.otaNonce).toNat ≠ 7)
    (hevery : ¬(1 < s.otaTlmDenom.toNat ∧ s.otaTlmDenom.toNat < 8)) :
    s.wideField.toNat = toN s.ch[switchChan (wideIndex s.otaNonce)] 128 := by
  rw [State.wideField_of_ne_seven h, if_neg (by simpa [State.tlmEvery] using hevery), BitVec.toNat_ofNat,
    Nat.mod_eq_of_lt (toN_lt (by decide) _)]

/-! ## Regions of a packet -/

theorem packedCode_packGroup (enc : Chan → Code10) (ch : Vector Chan 16) (base : GroupBase) (k : Fin 4) :
    packedCode (packGroup enc ch base) k.val = enc (groupChan ch base k) := by
  obtain ⟨h0, h1, h2, h3⟩ := packedCode_pack4x10 (enc (groupChan ch base 0)) (enc (groupChan ch base 1))
    (enc (groupChan ch base 2)) (enc (groupChan ch base 3))
  fin_cases k
  · exact h0
  · exact h1
  · exact h2
  · exact h3

theorem packedCode_packGroup_enc10Trunc (ch : Vector Chan 16) (base : GroupBase) (k : Fin 4) :
    (packedCode (packGroup enc10Trunc ch base) k.val).toNat = (groupChan ch base k).toNat / 2 := by
  rw [packedCode_packGroup, enc10Trunc_toNat]

theorem lowRegion_congr {p q : Vector Byte 13} (h : ∀ k (hk : k < 13), 1 ≤ k → k ≤ 5 → p[k] = q[k]) :
    lowRegion p = lowRegion q := by
  rw [lowRegion, lowRegion, h 1, h 2, h 3, h 4, h 5] <;> decide

theorem highRegion_congr {p q : Vector Byte 13} (h : ∀ k (hk : k < 13), 6 ≤ k → k ≤ 10 → p[k] = q[k]) :
    highRegion p = highRegion q := by
  rw [highRegion, highRegion, h 6, h 7, h 8, h 9, h 10] <;> decide

theorem State.lowRegion_compactPkt (s : State) (sw : BitVec 7) :
    lowRegion (s.compactPkt sw) = packGroup enc10Limit s.ch 0 := regionNumber_packedByte _

theorem State.lowRegion_extendedPkt (s : State) (sixteen : Bool) :
    lowRegion (s.extendedPkt sixteen) = packGroup enc10Trunc s.ch (groupOffsets sixteen s.auxHalf).1 :=
  regionNumber_packedByte _

theorem State.highRegion_extendedPkt (s : State) (sixteen : Bool) :
    highRegion (s.extendedPkt sixteen) = packGroup enc10Trunc s.ch (groupOffsets sixteen s.auxHalf).2 :=
  regionNumber_packedByte _

theorem State.extendedHeader_toNat (s : State) :
    s.extendedHeader.toNat = 4 * s.txTlm.toNat + 8 * (min (max s.otaUplinkPower.toNat 1) 8 - 1) +
      64 * s.auxHalf.toNat + 128 * s.txArmed.toNat := by
  simp only [State.extendedHeader, append_toNat, BitVec.toNat_ofBool, powerField_toNat, Config.typeRc,
    BitVec.toNat_ofNat]
  omega

/-! ## The sealed packet -/

theorem State.Bank1Matches.built {s : State} (h : s.Bank1Matches) : s.built.Bank1Matches := by
  rw [s.built_frame]
  exact h.congr rfl rfl rfl rfl rfl

/-- A packet just packed carries its own CRC (rules R229, R253). -/
theorem State.Bank1Matches.storedCrc_packed {s : State} (h : s.Bank1Matches) (hvalid : s.otaValid = true) :
    s.built.withSeal.storedCrc = s.built.withSeal.pktCrc :=
  h.built.storedCrc_withSeal (by rw [s.built_frame]; exact hvalid)

/-- What modes 0 and 1 pack alike: the type bits, the four stick channels, and the armed bit over the switch field of
the policy (rules R121, R204). -/
theorem State.built_sealedPkt_of_compact {s : State} {sw : BitVec 7} (hc : s.otaMode.isCompact = true)
    (hpkt : s.built.pkt = s.compactPkt sw) :
    s.built.sealedPkt[0].extractLsb' 0 2 = 0b00#2 ∧
      lowRegion s.built.sealedPkt =
        pack4x10 (enc10Limit s.ch[0]) (enc10Limit s.ch[1]) (enc10Limit s.ch[2]) (enc10Limit s.ch[3]) ∧
      s.built.sealedPkt[6].toNat = 128 * s.txArmed.toNat + sw.toNat := by
  have hcb : s.built.otaMode.isCompact = true := by rwa [s.built_otaMode]
  have hbyte {k : Nat} (hk : k < 13) (h0 : k ≠ 0) (h7 : k ≠ 7) : s.built.sealedPkt[k] = (s.compactPkt sw)[k] := by
    rw [State.sealedPkt_getElem_of_compact hcb hk h0 h7, hpkt]
  refine ⟨?_, ?_, ?_⟩
  · rw [State.sealedPkt_type_of_compact hcb, hpkt]
    exact BitVec.extractLsb'_append_eq_right
  · rw [lowRegion_congr fun k hk h1 h5 => hbyte hk (by omega) (by omega)]
    exact s.lowRegion_compactPkt sw
  · calc s.built.sealedPkt[6].toNat = (BitVec.ofBool s.txArmed ++ sw).toNat :=
          congrArg BitVec.toNat (hbyte (by decide) (by decide) (by decide))
      _ = 128 * s.txArmed.toNat + sw.toNat := by
        rw [append_toNat, BitVec.toNat_ofBool, Nat.mul_comm]
        rfl

/-- The header and the two groups of an extended packet (rules R219, R220). -/
theorem State.built_sealedPkt_of_extended {s : State} {sixteen : Bool} (hc : s.otaMode.isCompact = false)
    (hpkt : s.built.pkt = s.extendedPkt sixteen) :
    s.built.sealedPkt[0] = s.extendedHeader ∧
      lowRegion s.built.sealedPkt = packGroup enc10Trunc s.ch (groupOffsets sixteen s.auxHalf).1 ∧
      highRegion s.built.sealedPkt = packGroup enc10Trunc s.ch (groupOffsets sixteen s.auxHalf).2 := by
  have hcb : s.built.otaMode.isCompact = false := by rwa [s.built_otaMode]
  have hbyte {k : Nat} (hk : k < 13) (h : k ≤ 10) : s.built.sealedPkt[k] = (s.extendedPkt sixteen)[k] := by
    rw [State.sealedPkt_getElem_of_extended hcb hk (by omega) (by omega), hpkt]
  refine ⟨hbyte (by decide) (by decide), ?_, ?_⟩
  · rw [lowRegion_congr fun k hk _ h5 => hbyte hk (by omega), s.lowRegion_extendedPkt]
  · rw [highRegion_congr fun k hk _ h10 => hbyte hk h10, s.highRegion_extendedPkt]

/-! ## The four modes -/

theorem State.built_of_indexed {s : State} (h : s.otaMode = .compactIndexed) :
    s.built =
      { s with pkt := s.compactPkt s.indexedField, swIdx := BitVec.ofNat 3 ((s.swIdx.toNat + 1) % 7) } := by
  simp only [State.built, h]

theorem State.built_of_wide {s : State} (h : s.otaMode = .compactWide) :
    s.built = { s with pkt := s.compactPkt s.wideField } := by
  simp only [State.built, h]

theorem State.built_of_extended {s : State} (h : s.otaMode = .extended ∨ s.otaMode = .extended16) :
    s.built = { s with pkt := s.extendedPkt (s.otaMode == .extended16), auxHalf := !s.auxHalf } := by
  rcases h with h | h
  · simp only [State.built, h]; rfl
  · simp only [State.built, h]; rfl

/-- The cursor of the Indexed policy after a packet (rule R212). -/
theorem State.built_swIdx_of_indexed {s : State} (h : s.otaMode = .compactIndexed) :
    s.built.swIdx.toNat = (s.swIdx.toNat + 1) % 7 := by
  have := Nat.mod_lt (s.swIdx.toNat + 1) (show 0 < 7 by decide)
  rw [State.built_of_indexed h, BitVec.toNat_ofNat, Nat.mod_eq_of_lt (by omega)]

theorem exec_otaPack_of_indexed {s : State} (hvalid : s.otaValid = true) (h : s.otaMode = .compactIndexed) :
    exec .otaPack s = .next s.built.withSeal.accept :=
  exec_otaPack_of_ready hvalid (State.hopReady_of_ne (by simp [h]))

/-- Nothing past byte 7 is written in modes 0 and 1 (rule R203). -/
theorem State.built_sealedPkt_tail {s : State} (hc : s.otaMode.isCompact = true) {k : Nat} (hk : k < 13) (h8 : 8 ≤ k) :
    s.built.sealedPkt[k] = s.pkt[k] :=
  State.built_sealedPkt_getElem hk (by rwa [Mode.pktLen, if_pos hc])

/-- Settles O39: the packet of the compact family with the switch field of the Indexed policy. -/
theorem otaPackIndexed : Obligations.OtaPackIndexed := by
  intro s hvalid hmode hcursor hbank i v
  have hc : s.otaMode.isCompact = true := by rw [hmode]; rfl
  have hbuilt := State.built_of_indexed hmode
  obtain ⟨htype, hchans, hswitch⟩ := State.built_sealedPkt_of_compact hc (congrArg State.pkt hbuilt)
  refine ⟨_, exec_otaPack_of_indexed hvalid hmode, ?_, State.built_swIdx_of_indexed hmode, htype, hchans, ?_,
    hbank.storedCrc_packed hvalid, fun k => State.built_sealedPkt_tail hc k.isLt⟩
  · rw [hbuilt]; rfl
  · calc s.built.sealedPkt[6].toNat = 128 * s.txArmed.toNat + s.indexedField.toNat := hswitch
      _ = 128 * s.txArmed.toNat + 64 * s.txTlm.toNat + 8 * i + v := by
        rw [State.indexedField_toNat hcursor, ← Nat.add_assoc, ← Nat.add_assoc]

/-- Settles O40: the packet of the compact family with the switch field of the Wide policy. -/
theorem otaPackWide : Obligations.OtaPackWide := by
  intro s hvalid hmode hready hbank i
  have hc : s.otaMode.isCompact = true := by rw [hmode]; rfl
  have hbuilt := State.built_of_wide hmode
  obtain ⟨htype, hchans, hswitch⟩ := State.built_sealedPkt_of_compact hc (congrArg State.pkt hbuilt)
  refine ⟨_, exec_otaPack_of_ready hvalid hready, ?_, htype, hchans, fun h7 => hswitch.trans ?_,
    fun h7 hevery => hswitch.trans ?_, fun h7 hevery => hswitch.trans ?_, hbank.storedCrc_packed hvalid,
    fun k => State.built_sealedPkt_tail hc k.isLt⟩
  · rw [hbuilt]; rfl
  · rw [State.wideField_toNat_of_seven h7, Nat.add_assoc]
  · rw [State.wideField_toNat_of_every h7 hevery, Nat.add_assoc]
  · rw [State.wideField_toNat_of_not_every h7 hevery]

/-- The group offsets of rule R220 as the table lists them. -/
theorem groupOffsets_of_mode {m : Mode} (h : m = .extended ∨ m = .extended16) (half : Bool) :
    groupOffsets (m == .extended16) half =
      if m = .extended then (if half then (0, 9) else (0, 5)) else (if half then (8, 12) else (0, 4)) := by
  rcases h with rfl | rfl <;> cases half <;> rfl

/-- Settles O41: the header by its fields, each region by its codes. -/
theorem otaPackExtended : Obligations.OtaPackExtended := by
  intro s hvalid hmode hbank g
  have hc : s.otaMode.isCompact = false := by rcases hmode with h | h <;> rw [h] <;> rfl
  have hbuilt := State.built_of_extended hmode
  obtain ⟨hheader, hlow, hhigh⟩ := State.built_sealedPkt_of_extended hc (congrArg State.pkt hbuilt)
  rw [groupOffsets_of_mode hmode] at hlow hhigh
  have hready : s.HopReady := State.hopReady_of_ne (by rcases hmode with h | h <;> simp [h])
  refine ⟨_, exec_otaPack_of_ready hvalid hready, ?_, ?_, fun k => ?_, fun k => ?_, hbank.storedCrc_packed hvalid⟩
  · rw [hbuilt]; rfl
  · exact (congrArg BitVec.toNat hheader).trans s.extendedHeader_toNat
  · exact (congrArg (fun a => (packedCode a k.val).toNat) hlow).trans (packedCode_packGroup_enc10Trunc s.ch g.1 k)
  · exact (congrArg (fun a => (packedCode a k.val).toNat) hhigh).trans (packedCode_packGroup_enc10Trunc s.ch g.2 k)

end Sys2Proof.Machine
end

section
/-! Coverage of the switches: the cursor of the Indexed policy over a run of `OTA.PACK` writes, and the index of the
Wide policy over consecutive nonces (rules R213, R217). -/

namespace Sys2Proof.Machine

/-! ## The Indexed policy -/

/-- One write of `OTA.PACK` in mode 0 is taken off the port and moves the cursor by one modulo 7 (rule R212). -/
theorem step_otaPack_of_indexed {s : State} {rest : List Access} (hvalid : s.otaValid = true)
    (hmode : s.otaMode = .compactIndexed) (hp : s.pending = commandWrite 0x31#32 :: rest) :
    ∃ t, step s = .next t ∧ t.otaValid = true ∧ t.otaMode = .compactIndexed ∧ t.pending = rest ∧
      t.swIdx.toNat = (s.swIdx.toNat + 1) % 7 := by
  have hpack := exec_otaPack_of_indexed (s := { s with pending := rest }) hvalid hmode
  have hbuilt := State.built_of_indexed (s := { s with pending := rest }) hmode
  refine ⟨_, (stepRunsDecodedCommand s _ rest .otaPack hp (by decide)).trans hpack, ?_, ?_, ?_,
    State.built_swIdx_of_indexed (s := { s with pending := rest }) hmode⟩
  · rw [hbuilt]; exact hvalid
  · rw [hbuilt]; exact hmode
  · rw [hbuilt]; rfl

/-- A run of `k` writes of `OTA.PACK` in mode 0 moves the cursor by `k` modulo 7 (rules R25, R212). -/
theorem run_otaPack_swIdx (k : Nat) {s : State} (hvalid : s.otaValid = true) (hmode : s.otaMode = .compactIndexed)
    (hcursor : s.CursorInCycle) (hp : s.pending = List.replicate k (commandWrite 0x31#32)) :
    ∃ t, Host.Core.run Sys2Proof.core k s = .next t ∧ t.swIdx.toNat = (s.swIdx.toNat + k) % 7 := by
  induction k generalizing s with
  | zero => exact ⟨s, rfl, (Nat.mod_eq_of_lt hcursor).symm⟩
  | succ k ih =>
    obtain ⟨u, hstep, huvalid, humode, hup, huidx⟩ := step_otaPack_of_indexed hvalid hmode hp
    have hucursor : u.CursorInCycle := huidx.trans_lt (Nat.mod_lt _ (by decide))
    obtain ⟨t, hrun, hidx⟩ := ih huvalid humode hucursor hup
    refine ⟨t, (run_succ_of_next (M := Sys2Proof.core) hstep).trans hrun, ?_⟩
    rw [hidx, huidx, Nat.mod_add_mod, Nat.add_assoc, Nat.add_comm 1 k]

/-- Settles O44: the cursor after `j` writes is the start moved by `j`, which takes each value at one `j` below 7. -/
theorem indexedPolicyCoversEverySwitch : Obligations.IndexedPolicyCoversEverySwitch := by
  intro s hvalid hmode hcursor k hk
  have hrun (j : Nat) : ∃ t, Host.Core.run Sys2Proof.core j (s.issuing j 0x00000031#32) = .next t ∧
      t.swIdx.toNat = (s.swIdx.toNat + j) % 7 :=
    run_otaPack_swIdx j (s := s.issuing j 0x00000031#32) hvalid hmode hcursor rfl
  have hi : s.swIdx.toNat < 7 := hcursor
  refine ⟨(k + 7 - s.swIdx.toNat) % 7, Nat.mod_lt _ (by decide), ?_, fun j' hj' hne => ?_⟩
  · obtain ⟨t, ht, hidx⟩ := hrun ((k + 7 - s.swIdx.toNat) % 7)
    exact ⟨t, ht, by omega⟩
  · obtain ⟨t, ht, hidx⟩ := hrun j'
    exact ⟨t, ht, by omega⟩

/-! ## The Wide policy -/

/-- The index of a nonce depends on its remainder by 16 (rule R214). -/
theorem wideIndex_of_mod {n : BitVec 8} {m : Nat} (h : n.toNat % 16 = m) :
    (wideIndex n).toNat = (m % 8 + m / 8) % 8 := by
  have hlow : n.toNat % 8 = m % 8 := by omega
  have hhigh : n.toNat / 8 % 2 = m / 8 := by omega
  rw [wideIndex_toNat, hlow, hhigh]

/-- Each index belongs to an even and to an odd remainder by 16: the second half of the cycle is shifted by one against
the first (rule R214). -/
theorem exists_wide_remainder (k : BitVec 3) (r : Nat) :
    ∃ m, m < 16 ∧ (m % 8 + m / 8) % 8 = k.toNat ∧ m % 2 ≠ r % 2 := by
  have hk := k.isLt
  by_cases hpar : k.toNat % 2 = r % 2
  · exact ⟨8 + (k.toNat + 7) % 8, by omega, by omega, by omega⟩
  · exact ⟨k.toNat, by omega, by omega, hpar⟩

/-- Among 16 consecutive nonces each remainder by 16 occurs, also where the nonce wraps. -/
theorem exists_nonce_of_remainder (start : BitVec 8) {m : Nat} (hm : m < 16) :
    ∃ j, j < 16 ∧ (start + BitVec.ofNat 8 j).toNat % 16 = m := by
  refine ⟨(m + 16 - start.toNat % 16) % 16, Nat.mod_lt _ (by decide), ?_⟩
  rw [BitVec.toNat_add, BitVec.toNat_ofNat]
  omega

/-- Settles O45: the remainder by 16 is chosen with the parity that the given-up residue does not have; all moduli are
even. -/
theorem widePolicyCoversEverySwitch : Obligations.WidePolicyCoversEverySwitch := by
  intro start k e r he _
  obtain ⟨m, hm, hindex, hparity⟩ := exists_wide_remainder k r
  obtain ⟨j, hj, hrem⟩ := exists_nonce_of_remainder start hm
  refine ⟨j, hj, BitVec.eq_of_toNat_eq ((wideIndex_of_mod hrem).trans hindex), fun hr => hparity ?_⟩
  have heven : 2 ∣ 2 ^ e := dvd_pow_self 2 (Nat.one_le_iff_ne_zero.mp he)
  calc m % 2 = (start + BitVec.ofNat 8 j).toNat % 2 := by rw [← hrem, Nat.mod_mod_of_dvd _ (by decide)]
    _ = (start + BitVec.ofNat 8 j).toNat % 2 ^ e % 2 := (Nat.mod_mod_of_dvd _ heven).symm
    _ = r % 2 := by rw [hr]

end Sys2Proof.Machine
end

section
/-! A CRC over an odd polynomial tells two registers and two first bytes apart, since no step of the division loses a
bit (rules R152, R154). -/

namespace Sys2Proof.Machine

/-! ## Division by an odd polynomial -/

/-- A division step by an odd polynomial loses nothing: the bit that leaves at the top shows in the lowest bit. -/
theorem eq_zero_of_divStep_eq_zero {w : Nat} (h16 : w ≤ 16) {p c : Hword} (hodd : p.getLsbD 0 = true)
    (hc : c.toNat < 2 ^ w) (h : divStep w p c = 0) : c = 0 := by
  rw [divStep] at h
  cases htop : c.getLsbD (w - 1) with
  | true =>
    rw [htop, if_pos rfl] at h
    have hlow : (truncW w (c <<< 1) ^^^ p).getLsbD 0 = false := by rw [h]; rfl
    rw [BitVec.getLsbD_xor, truncW_getLsbD, BitVec.getLsbD_shiftLeft, hodd] at hlow
    simp at hlow
  | false =>
    rw [htop, if_neg Bool.false_ne_true] at h
    rw [← truncW_of_lt hc]
    apply BitVec.eq_of_getLsbD_eq
    intro i hi
    have hbit : (truncW w (c <<< 1)).getLsbD (i + 1) = false := by rw [h]; simp
    rw [truncW_getLsbD, BitVec.getLsbD_shiftLeft] at hbit
    rw [truncW_getLsbD]
    have hi : i + 1 < w ∨ i = w - 1 ∨ ¬i < w := by omega
    rcases hi with hlow | rfl | hout
    · simpa [hlow, show i < w by omega, show i + 1 < 16 by omega] using hbit
    · simp [htop]
    · simp [hout]

/-- The registers of a width. -/
def crcRegisters (w : Nat) : Set Hword := {c | c.toNat < 2 ^ w}

theorem divStep_injOn {w : Nat} (h16 : w ≤ 16) {p : Hword} (hodd : p.getLsbD 0 = true) :
    Set.InjOn (divStep w p) (crcRegisters w) := by
  intro a ha b hb hab
  have hzero : divStep w p (a ^^^ b) = 0 := by rw [divStep_xor, hab, BitVec.xor_self]; rfl
  exact BitVec.xor_eq_zero_iff.mp (eq_zero_of_divStep_eq_zero h16 hodd (xor_toNat_lt ha hb) hzero)

theorem topByte_toNat_lt (w : Nat) (b : Byte) : (topByte w b).toNat < 2 ^ w := truncW_toNat_lt w _

theorem topByte_injective {w : Nat} (h8 : 8 ≤ w) (h16 : w ≤ 16) {a b : Byte} (h : topByte w a = topByte w b) :
    a = b := by
  apply BitVec.eq_of_getLsbD_eq
  intro i hi
  have hbit := congrArg (BitVec.getLsbD · (w - 8 + i)) h
  simpa [topByte_getLsbD h16, show w - 8 + i < w by omega] using hbit

/-! ## The fold -/

/-- Two fold steps agree only where register and byte together agree (rule R154). -/
theorem xor_topByte_eq_of_foldStep_eq {w : Nat} (h8 : 8 ≤ w) (h16 : w ≤ 16) {p a b : Hword} {x y : Byte}
    (hp : p.toNat < 2 ^ w) (hodd : p.getLsbD 0 = true) (ha : a ∈ crcRegisters w) (hb : b ∈ crcRegisters w)
    (h : foldStep w (crcTable w p) a x = foldStep w (crcTable w p) b y) : a ^^^ topByte w x = b ^^^ topByte w y := by
  rw [foldStep_eq_iterate h8 h16, foldStep_eq_iterate h8 h16, truncW_of_lt ha, truncW_of_lt hb] at h
  exact (divStep_injOn h16 hodd).iterate (fun c _ => divStep_toNat_lt hp c) 8
    (xor_toNat_lt ha (topByte_toNat_lt w x)) (xor_toNat_lt hb (topByte_toNat_lt w y)) h

/-- Over the same bytes the fold keeps two registers apart. -/
theorem foldl_foldStep_injOn {w : Nat} (h8 : 8 ≤ w) (h16 : w ≤ 16) {p : Hword} (hp : p.toNat < 2 ^ w)
    (hodd : p.getLsbD 0 = true) (ds : List Byte) :
    Set.InjOn (fun c => ds.foldl (foldStep w (crcTable w p)) c) (crcRegisters w) := by
  induction ds with
  | nil => exact Set.injOn_id _
  | cons d ds ih =>
    intro a ha b hb hab
    have hstep := ih (foldStep_toNat_lt hp a d) (foldStep_toNat_lt hp b d) hab
    exact BitVec.xor_left_inj (topByte w d) |>.mp (xor_topByte_eq_of_foldStep_eq h8 h16 hp hodd ha hb hstep)

/-- Byte strings that differ in the first byte alone have different CRCs. -/
theorem foldl_foldStep_cons_inj {w : Nat} (h8 : 8 ≤ w) (h16 : w ≤ 16) {p c : Hword} (hp : p.toNat < 2 ^ w)
    (hodd : p.getLsbD 0 = true) (hc : c ∈ crcRegisters w) {x y : Byte} {ds : List Byte} :
    (x :: ds).foldl (foldStep w (crcTable w p)) c = (y :: ds).foldl (foldStep w (crcTable w p)) c ↔ x = y := by
  refine ⟨fun h => ?_, fun h => h ▸ rfl⟩
  have hstep := foldl_foldStep_injOn h8 h16 hp hodd ds (foldStep_toNat_lt hp c x) (foldStep_toNat_lt hp c y) h
  have hbytes := xor_topByte_eq_of_foldStep_eq h8 h16 hp hodd hc hc hstep
  exact topByte_injective h8 h16 (BitVec.xor_right_inj c |>.mp hbytes)

end Sys2Proof.Machine
end

section
/-! `OTA.VALIDATE` of a packet just packed or sealed, at its own nonce and at another one (rules R226, R253). -/

namespace Sys2Proof.Machine

/-! ## The nonce in the CRC -/

/-- The nonce enters the compact CRC through the substituted header alone, and the CRC shows it (rules R225, R226). -/
theorem State.Bank1Matches.pktCrc_withNonce_iff {s : State} (h : s.Bank1Matches) (hvalid : s.otaValid = true)
    (hc : s.otaMode.isCompact = true) (n : BitVec 8) :
    ({ s with otaNonce := n } : State).pktCrc = s.pktCrc ↔
      ({ s with otaNonce := n } : State).crcHeader = s.crcHeader := by
  have hinit : s.otaCrcInit &&& 0x3FFF#16 ∈ crcRegisters 14 := by
    rw [← truncW_fourteen]
    exact truncW_toNat_lt 14 _
  rw [State.pktCrc_eq_of_compact hc, State.pktCrc_eq_of_compact (s := { s with otaNonce := n }) hc,
    h.tab1_of_compact hvalid hc]
  exact foldl_foldStep_cons_inj (by decide) (by decide) (by decide) (by decide) hinit

/-- Two substituted headers of the same packet agree exactly where the two nonces have the same place in the hop
interval (rules R189, R226). -/
theorem State.crcHeader_withNonce_iff {s : State} (hneed : s.needsHopSync = true) (hlegal : s.hopIntervalLegal = true)
    (n : BitVec 8) :
    ({ s with otaNonce := n } : State).crcHeader = s.crcHeader ↔
      n.toNat % s.fhssHopInterval.toNat = s.otaNonce.toNat % s.fhssHopInterval.toNat := by
  have hsub := State.crcSub_toNat_of_legal hneed hlegal
  have hsub' : ({ s with otaNonce := n } : State).crcSub.toNat = n.toNat % s.fhssHopInterval.toNat + 1 :=
    State.crcSub_toNat_of_legal (s := { s with otaNonce := n }) hneed hlegal
  simp only [State.crcHeader]
  rw [← BitVec.toNat_inj, append_toNat, append_toNat, hsub, hsub']
  omega

/-! ## A sealed packet -/

/-- The block holds a packet with its CRC in place, in a mode whose checks `OTA.VALIDATE` passes. -/
structure State.Sealed (t : State) : Prop where
  /-- A mode is selected. -/
  otaValid : t.otaValid = true
  /-- Bank 1 agrees with the mode. -/
  bank1Matches : t.Bank1Matches
  /-- The hop interval is legal where the CRC needs it. -/
  not_hopRefused : ¬t.HopRefused
  /-- The CRC field holds the CRC of the packet. -/
  crc : t.pktCrc = t.storedCrc

theorem State.Bank1Matches.withSeal_accept {s : State} (h : s.Bank1Matches) : s.withSeal.accept.Bank1Matches :=
  h.congr rfl rfl rfl rfl rfl

/-- Sealing keeps the mode, the type of a compact packet and the hop interval, and so the check (rule R229). -/
theorem State.hopRefused_of_withSeal {s : State} (h : s.withSeal.HopRefused) : s.HopRefused := by
  obtain ⟨hwide, htype, hint⟩ := h
  have hc : s.otaMode.isCompact = true := by rw [← s.withSeal_otaMode, hwide]; rfl
  rw [s.withSeal_pkt, State.sealedPkt_type_of_compact hc] at htype
  exact ⟨hwide, htype, hint⟩

/-- An answer `OK` of `OTA.PACK` says that its checks have passed (rules R203, R227). -/
theorem passed_of_otaPack_ok {s t : State} (h : exec .otaPack s = .next t) (hok : t.result = .ok) :
    s.otaValid = true ∧ s.HopReady := by
  rw [otaPack_result h] at hok
  split_ifs at hok with hvalid hhop
  exact ⟨by simpa using hvalid, s.hopReady_iff.mpr hhop⟩

theorem State.not_hopRefused_of_ready {s : State} (h : s.HopReady) : ¬s.HopRefused := fun ⟨hwide, _, hint⟩ =>
  hint (h hwide)

theorem otaPack_sealed {s t : State} (hbank : s.Bank1Matches) (h : exec .otaPack s = .next t) (hok : t.result = .ok) :
    t.Sealed := by
  obtain ⟨hvalid, hready⟩ := passed_of_otaPack_ok h hok
  cases accepted_of_exec hok h
  refine ⟨by rw [s.built_frame]; exact hvalid, hbank.built.withSeal_accept, ?_, (hbank.storedCrc_packed hvalid).symm⟩
  refine fun hhop => State.not_hopRefused_of_ready ?_ (State.hopRefused_of_withSeal (s := s.built) hhop)
  rw [s.built_frame]
  exact hready

theorem otaSeal_sealed {s t : State} (hbank : s.Bank1Matches) (h : exec .otaSeal s = .next t) (hok : t.result = .ok) :
    t.Sealed := by
  have hpassed : s.otaValid = true ∧ ¬s.HopRefused := by
    rw [exec_otaSeal] at h
    injection h with h
    exact State.passed_of_checked_ok (h ▸ hok)
  obtain ⟨hvalid, hhop⟩ := hpassed
  cases accepted_of_exec hok h
  exact ⟨hvalid, hbank.withSeal_accept, fun hr => hhop (State.hopRefused_of_withSeal hr),
    (hbank.storedCrc_withSeal hvalid).symm⟩

/-! ## `OTA.VALIDATE` -/

theorem exec_otaValidate_of_passed {t : State} (hvalid : t.otaValid = true) (hhop : ¬t.HopRefused)
    (hok : t.result = .ok) : exec .otaValidate t = .next { t with crcOk := t.crcMatches } := by
  rw [exec_otaValidate, State.checked_of_passed hvalid hhop, ← hok]

/-- A sealed packet validates (rule R253). -/
theorem State.Sealed.validates {t : State} (h : t.Sealed) (hok : t.result = .ok) :
    exec .otaValidate t = .next { t with crcOk := true } := by
  rw [exec_otaValidate_of_passed h.otaValid h.not_hopRefused hok, t.crcMatches_iff.mpr h.crc]

/-- A sealed RC-data packet in mode 1 validates at another nonce exactly if that has the same place in the hop interval
(rules R226, R253). -/
theorem State.Sealed.validates_withNonce {t : State} (h : t.Sealed) (hok : t.result = .ok)
    (hwide : t.otaMode = .compactWide) (htype : t.pkt[0].extractLsb' 0 2 = 0b00#2) (n : BitVec 8) :
    exec .otaValidate { t with otaNonce := n } = .next { t with
      otaNonce := n
      crcOk := decide (n.toNat % t.fhssHopInterval.toNat = t.otaNonce.toNat % t.fhssHopInterval.toNat) } := by
  have hneed : t.needsHopSync = true := t.needsHopSync_iff.mpr ⟨hwide, htype⟩
  have hlegal : t.hopIntervalLegal = true := by
    by_contra hillegal
    exact h.not_hopRefused (t.hopRefused_iff.mpr ⟨hneed, by simpa using hillegal⟩)
  have hc : t.otaMode.isCompact = true := by rw [hwide]; rfl
  have hmatch : ({ t with otaNonce := n } : State).crcMatches =
      decide (n.toNat % t.fhssHopInterval.toNat = t.otaNonce.toNat % t.fhssHopInterval.toNat) := by
    rw [Bool.eq_iff_iff, State.crcMatches_iff, decide_eq_true_iff, ← State.crcHeader_withNonce_iff hneed hlegal,
      ← h.bank1Matches.pktCrc_withNonce_iff h.otaValid hc, h.crc]
    rfl
  rw [exec_otaValidate_of_passed (t := { t with otaNonce := n }) h.otaValid h.not_hopRefused hok, hmatch]

/-- Settles O47: both commands leave a sealed packet and the mode, the nonce and the hop interval as they were. -/
theorem freshPacketValidates : Obligations.FreshPacketValidates := by
  intro i s t hi hbank hexec hok
  have hsealed : t.Sealed := by
    rcases hi with rfl | rfl
    · exact otaPack_sealed hbank hexec hok
    · exact otaSeal_sealed hbank hexec hok
  have hframe : t.otaMode = s.otaMode ∧ t.otaNonce = s.otaNonce ∧ t.fhssHopInterval = s.fhssHopInterval := by
    rcases hi with rfl | rfl
    · rw [(otaPack_frame (accepted_of_exec hok hexec)).1]
      exact ⟨rfl, rfl, rfl⟩
    · rw [(otaSeal_frame (accepted_of_exec hok hexec)).1]
      exact ⟨rfl, rfl, rfl⟩
  obtain ⟨hmode, hnonce, hint⟩ := hframe
  refine ⟨hsealed.validates hok, fun hwide htype n => ?_⟩
  rw [← hint, ← hnonce]
  exact hsealed.validates_withNonce hok (hmode.trans hwide) htype n

end Sys2Proof.Machine
end

section
/-! `OTA.VALIDATE`, and the answers of `OTA.UNPACK` once the shared checks have passed (rules R251, R252, R255 to
R257). -/

namespace Sys2Proof.Machine

/-! ## The stored field -/

/-- The stored field of a compact packet: the header's six high bits over byte 7 (rule R252). -/
theorem State.storedCrc_toNat_of_compact {s : State} (h : s.otaMode.isCompact = true) :
    s.storedCrc.toNat = 2 ^ 8 * (s.pkt[0].toNat / 4) + s.pkt[7].toNat := by
  have := s.pkt[0].isLt
  rw [State.storedCrc_of_compact h, BitVec.toNat_setWidth_of_le (by decide), append_toNat, BitVec.extractLsb'_toNat,
    Nat.shiftRight_eq_div_pow, Nat.mod_eq_of_lt (by omega), Nat.mul_comm]

/-- The stored field of an extended packet: byte 12 over byte 11 (rule R252). -/
theorem State.storedCrc_toNat_of_extended {s : State} (h : s.otaMode.isCompact = false) :
    s.storedCrc.toNat = 2 ^ 8 * s.pkt[12].toNat + s.pkt[11].toNat := by
  rw [State.storedCrc_of_extended h, append_toNat, Nat.mul_comm]

/-! ## `OTA.VALIDATE` -/

theorem State.crcMatches_eq_decide (s : State) : s.crcMatches = decide (s.pktCrc = s.storedCrc) := by
  rw [Bool.eq_iff_iff, s.crcMatches_iff, decide_eq_true_iff]

/-- Once its checks have passed, `OTA.VALIDATE` answers with the comparison (rule R251). -/
theorem exec_otaValidate_compares {s : State} (hvalid : s.otaValid = true) (hhop : ¬s.HopRefused) :
    exec .otaValidate s = .next { s with result := .ok, crcOk := decide (s.pktCrc = s.storedCrc) } := by
  rw [exec_otaValidate, State.checked_of_passed hvalid hhop, s.crcMatches_eq_decide]

/-- Settles O46: the field of each family, and the three outcomes of the checks. -/
theorem otaValidateComparesTheCrc : Obligations.OtaValidateComparesTheCrc := by
  intro s
  refine ⟨State.storedCrc_toNat_of_compact, State.storedCrc_toNat_of_extended, fun hvalid => ?_,
    fun hvalid hhop => ?_, exec_otaValidate_compares⟩
  · rw [exec_otaValidate, State.checked_of_noMode hvalid]
  · rw [exec_otaValidate, State.checked_of_hopRefused hvalid hhop]

/-! ## The answers of `OTA.UNPACK` -/

/-- A packet that is no RC-data packet does not need the hop interval (rule R257). -/
theorem State.not_hopRefused_of_not_rc {s : State} (h : s.pkt[0].extractLsb' 0 2 ≠ 0b00#2) : ¬s.HopRefused :=
  fun ⟨_, htype, _⟩ => h htype

/-- Settles O49: the dropping branch after the checks. -/
theorem unpackDropsBadCrcSilently : Obligations.UnpackDropsBadCrcSilently := by
  intro s hvalid hhop hcrc
  rw [exec_otaUnpack, State.checked_of_passed hvalid hhop, if_pos (by simp [s.crcMatches_eq_decide, hcrc])]

/-- Settles O50: the branch of a valid packet that is not decoded; the type alone passes the check of the hop
interval. -/
theorem unpackLeavesNonRcPacketAlone : Obligations.UnpackLeavesNonRcPacketAlone := by
  intro s hvalid hcrc htype
  have hrc : (!s.pktIsRc) = true := by simpa [← s.pktIsRc_iff] using htype
  rw [exec_otaUnpack, State.checked_of_passed hvalid (State.not_hopRefused_of_not_rc htype),
    if_neg (by simp [s.crcMatches_iff.mpr hcrc]), if_pos hrc]

/-- A valid RC-data packet is decoded (rules R255, R259). -/
theorem exec_otaUnpack_of_rc {s : State} (hvalid : s.otaValid = true) (hready : s.HopReady)
    (hcrc : s.pktCrc = s.storedCrc) (htype : s.pkt[0].extractLsb' 0 2 = 0b00#2) :
    exec .otaUnpack s = .next { s.unpacked with result := .ok, crcOk := true, rxUpdated := true } := by
  rw [exec_otaUnpack, State.checked_of_passed hvalid (State.not_hopRefused_of_ready hready),
    if_neg (by simp [s.crcMatches_iff.mpr hcrc]), if_neg (by simp [s.pktIsRc_iff.mpr htype])]

end Sys2Proof.Machine
end

section
/-! A flipped bit of a packet: it stands either in the CRC field or under the CRC, so it changes one side of the
comparison and not the other (rule R254). -/

namespace Sys2Proof.Machine

/-! ## The bytes under the CRC as a list -/

/-- The bytes that the packet CRC is folded over: the leading bytes of the packet, in the compact family with the
substituted header in the place of the first (rule R225). -/
def State.crcBytes (s : State) : List Byte :=
  if s.otaMode.isCompact then (s.pkt.toList.take 7).set 0 s.crcHeader else s.pkt.toList.take 11

theorem State.crcBytes_of_compact {s : State} (h : s.otaMode.isCompact = true) :
    s.crcBytes = (s.pkt.toList.take 7).set 0 s.crcHeader := if_pos h

theorem State.crcBytes_of_extended {s : State} (h : s.otaMode.isCompact = false) :
    s.crcBytes = s.pkt.toList.take 11 := by rw [State.crcBytes, h, if_neg Bool.false_ne_true]

theorem State.crcBytes_length (s : State) : s.crcBytes.length = s.otaMode.crcSpan := by
  unfold State.crcBytes Mode.crcSpan
  split <;> simp

/-- The packet CRC is one fold at the width of the mode (rules R201, R225). -/
theorem State.pktCrc_eq_crcFold (s : State) :
    s.pktCrc = crcFold s.otaMode.bankCfg.width.toNat s.tab1 s.otaCrcInit s.crcBytes := by
  cases hc : s.otaMode.isCompact with
  | true =>
    have hset : (s.pkt.toList.take 7).set 0 s.crcHeader = s.crcHeader :: (s.pkt.toList.take 7).drop 1 := by
      simp [List.set_eq_take_append_cons_drop]
    rw [State.pktCrc_of_compact hc, State.crcBytes_of_compact hc, hset, Mode.bankCfg_of_compact hc]
    rfl
  | false =>
    rw [State.pktCrc_of_extended hc, State.crcBytes_of_extended hc, Mode.bankCfg_of_extended hc]
    rfl

/-- The CRC of each mode is one that loses nothing: a legal width, and an odd polynomial that fits it (rule R201). -/
theorem Mode.bankCfg_lossless (m : Mode) :
    m.bankCfg.width.toNat ∈ [8, 14, 16] ∧ m.bankCfg.poly.toNat < 2 ^ m.bankCfg.width.toNat ∧
      m.bankCfg.poly.getLsbD 0 = true := by
  cases m <;> decide

/-- Byte strings that differ in one byte have different CRCs, wherever that byte stands. -/
theorem crcFold_set_ne {w : Nat} (h8 : 8 ≤ w) (h16 : w ≤ 16) {p : Hword} (hp : p.toNat < 2 ^ w)
    (hodd : p.getLsbD 0 = true) (init : Hword) {ds : List Byte} {i : Nat} (hi : i < ds.length) {y : Byte}
    (hne : y ≠ ds[i]) : crcFold w (crcTable w p) init (ds.set i y) ≠ crcFold w (crcTable w p) init ds := by
  have hregister : crcFold w (crcTable w p) init (ds.take i) ∈ crcRegisters w :=
    foldl_foldStep_toNat_lt hp (truncW_toNat_lt w init) _
  have hset : ds.set i y = ds.take i ++ y :: ds.drop (i + 1) := by
    rw [List.set_eq_take_append_cons_drop, if_pos hi]
  have hsplit : ds = ds.take i ++ ds[i] :: ds.drop (i + 1) := by
    rw [← List.drop_eq_getElem_cons hi, List.take_append_drop]
  intro h
  rw [hset, crcFold_append] at h
  conv at h => rhs; rw [hsplit, crcFold_append]
  exact hne ((foldl_foldStep_cons_inj h8 h16 hp hodd hregister).mp h)

theorem State.Bank1Matches.tab1_eq {s : State} (h : s.Bank1Matches) (hvalid : s.otaValid = true) :
    s.tab1 = crcTable s.otaMode.bankCfg.width.toNat s.otaMode.bankCfg.poly := by
  obtain ⟨-, hbank⟩ := h
  rw [if_pos hvalid] at hbank
  exact hbank.2

/-! ## The flipped bit -/

theorem bitMask_getLsbD (b : Fin 8) (i : Nat) : (1#8 <<< b.val).getLsbD i = decide (i = b.val) := by
  rw [← BitVec.twoPow_eq, BitVec.getLsbD_twoPow, decide_eq_true b.isLt, Bool.true_and]
  exact decide_eq_decide.mpr eq_comm

/-- A flip shows in a field of a byte if it is in it. -/
theorem extractLsb'_flip_iff (x : Byte) (b : Fin 8) (start len : Nat) :
    (x ^^^ (1#8 <<< b.val)).extractLsb' start len = x.extractLsb' start len ↔
      ¬(start ≤ b.val ∧ b.val < start + len) := by
  rw [BitVec.extractLsb'_xor, xor_left_eq_self_iff]
  change _ = 0#len ↔ _
  constructor
  · rintro hzero ⟨hlo, hhi⟩
    have hbit := congrArg (BitVec.getLsbD · (b.val - start)) hzero
    simp only [BitVec.getLsbD_extractLsb', bitMask_getLsbD, show b.val - start < len by omega,
      show start + (b.val - start) = b.val by omega, BitVec.getLsbD_zero] at hbit
    cases hbit
  · intro hout
    apply BitVec.eq_of_getLsbD_eq
    intro i hi
    simp only [BitVec.getLsbD_extractLsb', bitMask_getLsbD, show start + i ≠ b.val by omega, decide_false,
      Bool.and_false, BitVec.getLsbD_zero]

theorem flip_ne (x : Byte) (b : Fin 8) : x ^^^ (1#8 <<< b.val) ≠ x := fun h =>
  (extractLsb'_flip_iff x b 0 8).mp (congrArg _ h) ⟨Nat.zero_le _, by omega⟩

theorem State.flipPkt_getElem_self (s : State) (k : Fin 13) (b : Fin 8) :
    (s.flipPkt k b).pkt[k.val] = s.pkt[k.val] ^^^ (1#8 <<< b.val) :=
  Vector.getElem_set_self k.isLt

theorem State.flipPkt_getElem_ne (s : State) {k : Fin 13} (b : Fin 8) {j : Nat} (hj : j < 13) (h : k.val ≠ j) :
    (s.flipPkt k b).pkt[j] = s.pkt[j] := Vector.getElem_set_ne k.isLt hj h

theorem State.flipPkt_toList (s : State) (k : Fin 13) (b : Fin 8) :
    (s.flipPkt k b).pkt.toList = s.pkt.toList.set k.val (s.pkt[k.val] ^^^ (1#8 <<< b.val)) :=
  Vector.toList_set k.isLt

/-- A field of the header byte stays unless the flip is in it. -/
theorem State.flipPkt_headerField_eq_iff (s : State) (k : Fin 13) (b : Fin 8) (start len : Nat) :
    (s.flipPkt k b).pkt[0].extractLsb' start len = s.pkt[0].extractLsb' start len ↔
      ¬(k.val = 0 ∧ start ≤ b.val ∧ b.val < start + len) := by
  by_cases hk : k.val = 0
  · obtain rfl : k = 0 := Fin.ext hk
    have hself : (s.flipPkt 0 b).pkt[0] = s.pkt[0] ^^^ (1#8 <<< b.val) := s.flipPkt_getElem_self 0 b
    rw [hself, extractLsb'_flip_iff, and_iff_right hk]
  · rw [s.flipPkt_getElem_ne b (by decide) hk]
    exact iff_of_true rfl fun h => hk h.1

/-- The bit stands in the CRC field: bits 7:2 of byte 0 and byte 7 in the compact family, bytes 11 and 12 in the
extended family (rule R252). -/
def Mode.InCrcField (m : Mode) (k : Fin 13) (b : Fin 8) : Prop :=
  if m.isCompact then k.val = 0 ∧ 2 ≤ b.val ∨ k.val = 7 else 11 ≤ k.val

theorem Mode.inCrcField_iff_of_compact {m : Mode} (h : m.isCompact = true) (k : Fin 13) (b : Fin 8) :
    m.InCrcField k b ↔ k.val = 0 ∧ 2 ≤ b.val ∨ k.val = 7 := by rw [Mode.InCrcField, if_pos h]

theorem Mode.inCrcField_iff_of_extended {m : Mode} (h : m.isCompact = false) (k : Fin 13) (b : Fin 8) :
    m.InCrcField k b ↔ 11 ≤ k.val := by rw [Mode.InCrcField, h, if_neg Bool.false_ne_true]

/-! ### The stored side -/

theorem State.storedCrc_eq_iff_of_compact {s t : State} (hs : s.otaMode.isCompact = true)
    (ht : t.otaMode.isCompact = true) :
    t.storedCrc = s.storedCrc ↔
      t.pkt[0].extractLsb' 2 6 = s.pkt[0].extractLsb' 2 6 ∧ t.pkt[7] = s.pkt[7] := by
  rw [← BitVec.toNat_inj, ← BitVec.toNat_inj, ← BitVec.toNat_inj, State.storedCrc_toNat_of_compact hs,
    State.storedCrc_toNat_of_compact ht, BitVec.extractLsb'_toNat, BitVec.extractLsb'_toNat]
  have := s.pkt[7].isLt
  have := t.pkt[7].isLt
  have := s.pkt[0].isLt
  have := t.pkt[0].isLt
  simp only [Nat.shiftRight_eq_div_pow]
  omega

theorem State.storedCrc_eq_iff_of_extended {s t : State} (hs : s.otaMode.isCompact = false)
    (ht : t.otaMode.isCompact = false) :
    t.storedCrc = s.storedCrc ↔ t.pkt[11] = s.pkt[11] ∧ t.pkt[12] = s.pkt[12] := by
  rw [← BitVec.toNat_inj, ← BitVec.toNat_inj, ← BitVec.toNat_inj, State.storedCrc_toNat_of_extended hs,
    State.storedCrc_toNat_of_extended ht]
  have := s.pkt[11].isLt
  have := t.pkt[11].isLt
  omega

/-- A flipped byte differs from what it was, and no other byte does. -/
theorem State.flipPkt_getElem_eq_iff (s : State) (k : Fin 13) (b : Fin 8) {j : Nat} (hj : j < 13) :
    (s.flipPkt k b).pkt[j] = s.pkt[j] ↔ k.val ≠ j := by
  refine ⟨?_, s.flipPkt_getElem_ne b hj⟩
  rintro h rfl
  exact flip_ne _ b ((s.flipPkt_getElem_self k b).symm.trans h)

/-- A flip changes the stored field if it is in it (rule R252). -/
theorem State.storedCrc_flipPkt_iff (s : State) (k : Fin 13) (b : Fin 8) :
    (s.flipPkt k b).storedCrc = s.storedCrc ↔ ¬s.otaMode.InCrcField k b := by
  cases hc : s.otaMode.isCompact with
  | true =>
    rw [State.storedCrc_eq_iff_of_compact (t := s.flipPkt k b) hc hc, s.flipPkt_headerField_eq_iff,
      s.flipPkt_getElem_eq_iff, Mode.inCrcField_iff_of_compact hc]
    omega
  | false =>
    rw [State.storedCrc_eq_iff_of_extended (t := s.flipPkt k b) hc hc, s.flipPkt_getElem_eq_iff,
      s.flipPkt_getElem_eq_iff, Mode.inCrcField_iff_of_extended hc]
    omega

/-! ### The computed side -/

/-- The substituted header takes over the type bits alone, in mode 1 with a value that depends on them (rules R225,
R226). -/
theorem State.crcHeader_eq_iff {s t : State} (hmode : t.otaMode = s.otaMode) (hnonce : t.otaNonce = s.otaNonce)
    (hint : t.fhssHopInterval = s.fhssHopInterval) :
    t.crcHeader = s.crcHeader ↔ t.pkt[0].extractLsb' 0 2 = s.pkt[0].extractLsb' 0 2 := by
  constructor
  · intro h
    have htype := congrArg (BitVec.extractLsb' 0 2) h
    rwa [State.crcHeader, State.crcHeader, BitVec.extractLsb'_append_eq_right,
      BitVec.extractLsb'_append_eq_right] at htype
  · intro h
    have hneed : t.needsHopSync = s.needsHopSync := by
      rw [State.needsHopSync, State.needsHopSync, State.pktIsRc, State.pktIsRc, h, hmode]
    have hsync : t.hopSync = s.hopSync := by rw [State.hopSync, State.hopSync, hnonce, hint]
    rw [State.crcHeader, State.crcHeader, State.crcSub, State.crcSub, hneed, hsync, h]

theorem State.crcHeader_flipPkt_iff (s : State) (k : Fin 13) (b : Fin 8) :
    (s.flipPkt k b).crcHeader = s.crcHeader ↔ ¬(k.val = 0 ∧ b.val < 2) := by
  rw [State.crcHeader_eq_iff (s := s) (t := s.flipPkt k b) rfl rfl rfl, s.flipPkt_headerField_eq_iff]
  omega

theorem State.crcBytes_flipPkt_of_compact {s : State} (h : s.otaMode.isCompact = true) (k : Fin 13) (b : Fin 8) :
    (s.flipPkt k b).crcBytes =
      ((s.pkt.toList.take 7).set k.val (s.pkt[k.val] ^^^ (1#8 <<< b.val))).set 0 (s.flipPkt k b).crcHeader := by
  rw [State.crcBytes_of_compact (s := s.flipPkt k b) h, s.flipPkt_toList, List.take_set]

theorem State.crcBytes_flipPkt_of_extended {s : State} (h : s.otaMode.isCompact = false) (k : Fin 13) (b : Fin 8) :
    (s.flipPkt k b).crcBytes = s.crcBytes.set k.val (s.pkt[k.val] ^^^ (1#8 <<< b.val)) := by
  rw [State.crcBytes_of_extended (s := s.flipPkt k b) h, State.crcBytes_of_extended h, s.flipPkt_toList, List.take_set]

/-- A flip in the CRC field leaves the bytes under the CRC as they were. -/
theorem State.crcBytes_flipPkt_of_inCrcField {s : State} {k : Fin 13} {b : Fin 8} (h : s.otaMode.InCrcField k b) :
    (s.flipPkt k b).crcBytes = s.crcBytes := by
  cases hc : s.otaMode.isCompact with
  | true =>
    rw [Mode.inCrcField_iff_of_compact hc] at h
    have hheader : (s.flipPkt k b).crcHeader = s.crcHeader := (s.crcHeader_flipPkt_iff k b).mpr (by omega)
    rw [State.crcBytes_flipPkt_of_compact hc, State.crcBytes_of_compact hc, hheader]
    rcases h with ⟨hk, -⟩ | hk
    · simp only [hk, List.set_set]
    · rw [List.set_eq_of_length_le (i := k.val) (by simp [hk])]
  | false =>
    rw [Mode.inCrcField_iff_of_extended hc] at h
    rw [State.crcBytes_flipPkt_of_extended hc, List.set_eq_of_length_le]
    rwa [s.crcBytes_length, Mode.crcSpan_of_extended hc]

/-- A flip outside the CRC field replaces one of the bytes under the CRC by another one. -/
theorem State.crcBytes_flipPkt_of_not_inCrcField {s : State} {k : Fin 13} {b : Fin 8}
    (hlen : k.val < s.otaMode.pktLen) (h : ¬s.otaMode.InCrcField k b) :
    ∃ (hk : k.val < s.crcBytes.length) (y : Byte), y ≠ s.crcBytes[k.val] ∧
      (s.flipPkt k b).crcBytes = s.crcBytes.set k.val y := by
  cases hc : s.otaMode.isCompact with
  | true =>
    have hlen : k.val < 8 := by simpa [Mode.pktLen, hc, Config.lenCompact] using hlen
    rw [Mode.inCrcField_iff_of_compact hc] at h
    refine ⟨by rw [s.crcBytes_length, Mode.crcSpan_of_compact hc]; omega, ?_⟩
    simp only [State.crcBytes_flipPkt_of_compact hc, State.crcBytes_of_compact hc]
    by_cases hk : k.val = 0
    · have hheader : (s.flipPkt k b).crcHeader ≠ s.crcHeader := mt (s.crcHeader_flipPkt_iff k b).mp (by omega)
      exact ⟨(s.flipPkt k b).crcHeader, by simpa [hk] using hheader, by simp [hk]⟩
    · have hheader : (s.flipPkt k b).crcHeader = s.crcHeader :=
        (s.crcHeader_flipPkt_iff k b).mpr fun h0 => hk h0.1
      refine ⟨s.pkt[k.val] ^^^ (1#8 <<< b.val), ?_, ?_⟩
      · simpa [List.getElem_set_ne (Ne.symm hk)] using flip_ne s.pkt[k.val] b
      · rw [hheader, List.set_comm _ _ hk]
  | false =>
    rw [Mode.inCrcField_iff_of_extended hc] at h
    refine ⟨by rw [s.crcBytes_length, Mode.crcSpan_of_extended hc]; omega, _, ?_,
      State.crcBytes_flipPkt_of_extended hc k b⟩
    simpa [State.crcBytes_of_extended hc] using flip_ne s.pkt[k.val] b

/-- A flip changes the CRC of the packet if it is not in the CRC field (rules R225, R254). -/
theorem State.Bank1Matches.pktCrc_flipPkt_iff {s : State} (hbank : s.Bank1Matches) (hvalid : s.otaValid = true)
    {k : Fin 13} (hlen : k.val < s.otaMode.pktLen) (b : Fin 8) :
    (s.flipPkt k b).pktCrc = s.pktCrc ↔ s.otaMode.InCrcField k b := by
  rw [State.pktCrc_eq_crcFold, State.pktCrc_eq_crcFold]
  constructor
  · contrapose
    intro hfield
    obtain ⟨hk, y, hne, hbytes⟩ := State.crcBytes_flipPkt_of_not_inCrcField hlen hfield
    obtain ⟨hw, hp, hodd⟩ := s.otaMode.bankCfg_lossless
    obtain ⟨h8, h16⟩ := width_bounds hw
    have hset := crcFold_set_ne h8 h16 hp hodd s.otaCrcInit hk hne
    rw [← hbank.tab1_eq hvalid, ← hbytes] at hset
    exact hset
  · intro hfield
    rw [State.crcBytes_flipPkt_of_inCrcField hfield]
    rfl

/-- Settles O48: the flip changes exactly one of the two sides, which agreed before. -/
theorem singleBitFlipIsDetected : Obligations.SingleBitFlipIsDetected := by
  intro s k b hvalid hbank hcrc hlen hhop
  have hdiffer : (s.flipPkt k b).pktCrc ≠ (s.flipPkt k b).storedCrc := by
    intro h
    by_cases hfield : s.otaMode.InCrcField k b
    · have hsame := (hbank.pktCrc_flipPkt_iff hvalid hlen b).mpr hfield
      exact (s.storedCrc_flipPkt_iff k b).mp (by rw [← h, hsame, hcrc]) hfield
    · have hsame := (s.storedCrc_flipPkt_iff k b).mpr hfield
      exact hfield ((hbank.pktCrc_flipPkt_iff hvalid hlen b).mp (by rw [h, hsame, hcrc]))
  rw [exec_otaValidate_compares (s := s.flipPkt k b) hvalid hhop, decide_eq_false hdiffer]

end Sys2Proof.Machine
end

section
/-! `OTA.UNPACK` by mode: the receive channels that each policy writes, and those it leaves (rules R259 to R266). -/

namespace Sys2Proof.Machine

/-! ## The switch field of a compact packet -/

theorem State.rxSwitch_toNat (s : State) : s.rxSwitch.toNat = s.pkt[6].toNat % 128 := by
  rw [State.rxSwitch, BitVec.extractLsb'_toNat]
  rfl

/-- The telemetry bit of the switch field is bit 6 of the byte (rule R260). -/
theorem State.rxSwitch_getLsbD_six (s : State) : s.rxSwitch.getLsbD 6 = s.pkt[6].getLsbD 6 := by
  simp [State.rxSwitch]

/-- The index bits of the switch field are bits 5:3 of the byte (rules R260, R262). -/
theorem State.rxSwitch_index (s : State) : s.rxSwitch.extractLsb' 3 3 = s.pkt[6].extractLsb' 3 3 := by
  apply BitVec.eq_of_toNat_eq
  rw [BitVec.extractLsb'_toNat, BitVec.extractLsb'_toNat, s.rxSwitch_toNat, Nat.shiftRight_eq_div_pow,
    Nat.shiftRight_eq_div_pow]
  omega

/-- The low bits of the switch field are those of the byte (rule R260). -/
theorem State.rxSwitch_low_toNat (s : State) {n : Nat} (h : n ≤ 7) :
    (s.rxSwitch.extractLsb' 0 n).toNat = s.pkt[6].toNat % 2 ^ n := by
  rw [BitVec.extractLsb'_toNat, s.rxSwitch_toNat, Nat.shiftRight_zero]
  exact Nat.mod_mod_of_dvd _ (pow_dvd_pow 2 h)

/-! ## The channels of a compact packet -/

/-- The stick channels are those of the packet, the other channels stay (rule R260). -/
theorem State.unpackCompact_rxch_getElem (s : State) {k : Nat} (hk : k < 16) :
    s.unpackCompact.rxch[k] = if k < 4 then dec10Limit (packedCode (lowRegion s.pkt) k) else s.rxch[k] := by
  have hrxch : s.unpackCompact.rxch = unpackGroup dec10Limit s.rxch 0 (lowRegion s.pkt) := rfl
  rw [hrxch, unpackGroup_getElem]
  simp

/-- The switch that the Indexed policy writes, by the fields of the switch byte (rule R262). -/
theorem State.unpackIndexed_rxch (s : State) :
    s.unpackIndexed.rxch =
      if 6 ≤ (s.pkt[6].extractLsb' 3 3).toNat then s.unpackCompact.rxch.set 11 (fromN (s.pkt[6].toNat % 16) 15)
      else s.unpackCompact.rxch.set (switchChan (s.pkt[6].extractLsb' 3 3)) (fromN (s.pkt[6].toNat % 8) 7) := by
  have h3 : (s.rxSwitch.extractLsb' 0 3).toNat = s.pkt[6].toNat % 8 := s.rxSwitch_low_toNat (by decide)
  have h4 : (s.rxSwitch.extractLsb' 0 4).toNat = s.pkt[6].toNat % 16 := s.rxSwitch_low_toNat (by decide)
  simp only [← h3, ← h4, ← s.rxSwitch_index]
  rfl

/-- The Indexed policy writes one switch, the one that the index bits name, 6 and 7 both the last one (rule R262). -/
theorem State.unpackIndexed_rxch_getElem (s : State) {k : Nat} (hk : k < 16) :
    s.unpackIndexed.rxch[k] =
      if 5 + min (s.pkt[6].extractLsb' 3 3).toNat 6 = k then
        if 6 ≤ (s.pkt[6].extractLsb' 3 3).toNat then fromN (s.pkt[6].toNat % 16) 15
        else fromN (s.pkt[6].toNat % 8) 7
      else s.unpackCompact.rxch[k] := by
  simp only [s.unpackIndexed_rxch]
  by_cases h6 : 6 ≤ (s.pkt[6].extractLsb' 3 3).toNat
  · simp only [h6, if_true, Nat.min_eq_right, Vector.getElem_set]
  · simp only [h6, if_false, Nat.min_eq_left (Nat.le_of_not_le h6), Vector.getElem_set, switchChan_val]

/-- The switch that the Wide policy writes, by the fields of the switch byte (rule R264). -/
theorem State.unpackWide_rxch (s : State) :
    s.unpackWide.rxch =
      if wideIndex s.otaNonce = 7 then s.unpackCompact.rxch
      else if s.tlmEvery then
        s.unpackCompact.rxch.set (switchChan (wideIndex s.otaNonce)) (fromN (s.pkt[6].toNat % 64) 63)
      else s.unpackCompact.rxch.set (switchChan (wideIndex s.otaNonce)) (fromN (s.pkt[6].toNat % 128) 127) := by
  have h6 : (s.rxSwitch.extractLsb' 0 6).toNat = s.pkt[6].toNat % 64 := s.rxSwitch_low_toNat (by decide)
  rw [← h6, ← s.rxSwitch_toNat]
  rfl

theorem wideIndex_eq_seven_iff (n : BitVec 8) : wideIndex n = 7 ↔ (wideIndex n).toNat = 7 := BitVec.toNat_inj.symm

/-- The Wide policy writes the switch of the receiver's index, none at index 7 (rule R264). -/
theorem State.unpackWide_rxch_getElem (s : State) {k : Nat} (hk : k < 16) :
    s.unpackWide.rxch[k] =
      if (wideIndex s.otaNonce).toNat ≠ 7 ∧ 5 + (wideIndex s.otaNonce).toNat = k then
        if s.tlmEvery then fromN (s.pkt[6].toNat % 64) 63 else fromN (s.pkt[6].toNat % 128) 127
      else s.unpackCompact.rxch[k] := by
  simp only [s.unpackWide_rxch, wideIndex_eq_seven_iff]
  by_cases h7 : (wideIndex s.otaNonce).toNat = 7
  · simp only [h7, if_true, ne_eq, not_true_eq_false, false_and, if_false]
  · by_cases hevery : s.tlmEvery = true <;>
      simp only [h7, hevery, if_true, if_false, ne_eq, not_false_eq_true, true_and, Vector.getElem_set, switchChan_val,
        Bool.false_eq_true]

theorem State.tlmEvery_iff (s : State) :
    s.tlmEvery = true ↔ 1 < s.otaTlmDenom.toNat ∧ s.otaTlmDenom.toNat < 8 := decide_eq_true_iff

/-! ## Modes 0 and 1 -/

theorem State.unpacked_of_indexed {s : State} (h : s.otaMode = .compactIndexed) : s.unpacked = s.unpackIndexed := by
  simp only [State.unpacked, h]

theorem State.unpacked_of_wide {s : State} (h : s.otaMode = .compactWide) : s.unpacked = s.unpackWide := by
  simp only [State.unpacked, h]

/-- Settles O51: the stick channels are common to the compact family, the switch is that of the Indexed policy. -/
theorem otaUnpackIndexed : Obligations.OtaUnpackIndexed := by
  intro s hvalid hmode hcrc htype i
  have hexec := exec_otaUnpack_of_rc hvalid (State.hopReady_of_ne (by simp [hmode])) hcrc htype
  rw [State.unpacked_of_indexed hmode] at hexec
  have hchan {k : Nat} (hk : k < 16) := s.unpackIndexed_rxch_getElem hk
  refine ⟨_, hexec, ?_, fun k => ?_, fun h6 => ?_, fun j hj => ?_, fun k h4 hne => ?_⟩
  · rw [← s.rxSwitch_getLsbD_six]
    rfl
  · refine (hchan (by omega)).trans ?_
    rw [if_neg (by omega), s.unpackCompact_rxch_getElem, if_pos k.isLt]
  · refine (hchan (by decide)).trans ?_
    rw [if_pos (by omega), if_pos h6]
  · refine (hchan (by omega)).trans ?_
    rw [if_pos (by omega), if_neg (by omega)]
  · refine (hchan k.isLt).trans ?_
    rw [if_neg (Ne.symm hne), s.unpackCompact_rxch_getElem, if_neg (by omega)]
    rfl

/-- Settles O52: the stick channels are common to the compact family, the switch is that of the Wide policy. -/
theorem otaUnpackWide : Obligations.OtaUnpackWide := by
  intro s hvalid hmode hready hcrc htype i every
  have hexec := exec_otaUnpack_of_rc hvalid hready hcrc htype
  rw [State.unpacked_of_wide hmode] at hexec
  have hchan {k : Nat} (hk : k < 16) := s.unpackWide_rxch_getElem hk
  have hseven : wideIndex s.otaNonce = 7 ↔ i = 7 := wideIndex_eq_seven_iff _
  have hevery : s.tlmEvery = true ↔ every := s.tlmEvery_iff
  refine ⟨_, hexec, rfl, fun h => ?_, fun h => ?_, fun h7 => ?_, fun h7 => ?_, fun k => ?_, fun j hj he => ?_,
    fun j hj he => ?_, fun k h4 hne => ?_⟩
  · exact (if_pos (by rwa [hevery, hseven])).trans s.rxSwitch_getLsbD_six
  · exact if_neg (by rw [hevery, hseven]; tauto)
  · exact (congrArg BitVec.toNat (if_pos (hseven.mpr h7))).trans (s.rxSwitch_low_toNat (by decide))
  · exact if_neg (mt hseven.mp h7)
  · refine (hchan (by omega)).trans ?_
    rw [if_neg (by omega), s.unpackCompact_rxch_getElem, if_pos k.isLt]
  · refine (hchan (by omega)).trans ?_
    rw [if_pos (by omega), if_pos (hevery.mpr he)]
  · refine (hchan (by omega)).trans ?_
    rw [if_pos (by omega), if_neg (mt hevery.mp he)]
  · refine (hchan k.isLt).trans ?_
    rw [if_neg (by omega), s.unpackCompact_rxch_getElem, if_neg (by omega)]
    rfl

/-! ## Modes 2 and 3 -/

theorem groupChan_unpackGroup_self (dec : Code10 → Chan) (rx : Vector Chan 16) (base : GroupBase) (a : BitVec 40)
    (k : Fin 4) : groupChan (unpackGroup dec rx base a) base k = dec (packedCode a k.val) := by
  rw [groupChan, unpackGroup_getElem, if_pos (by omega), Nat.add_sub_cancel_left]

/-- Unpacking a group leaves a group that lies before it. -/
theorem groupChan_unpackGroup_of_before (dec : Code10 → Chan) (rx : Vector Chan 16) {base later : GroupBase}
    (h : base.val + 4 ≤ later.val) (a : BitVec 40) (k : Fin 4) :
    groupChan (unpackGroup dec rx later a) base k = groupChan rx base k := by
  rw [groupChan, unpackGroup_getElem, if_neg (by omega), groupChan]

/-- The two groups of a packet do not meet (rule R220). -/
theorem groupOffsets_disjoint (sixteen half : Bool) :
    (groupOffsets sixteen half).1.val + 4 ≤ (groupOffsets sixteen half).2.val := by
  cases sixteen <;> cases half <;> decide

theorem State.unpacked_of_extended {s : State} (h : s.otaMode = .extended ∨ s.otaMode = .extended16) :
    s.unpacked = s.unpackExtended (s.otaMode == .extended16) := by
  rcases h with h | h
  · simp only [State.unpacked, h]; rfl
  · simp only [State.unpacked, h]; rfl

theorem State.unpackExtended_rxch (s : State) (sixteen : Bool) :
    (s.unpackExtended sixteen).rxch =
      unpackGroup dec10Trunc
        (unpackGroup dec10Trunc s.rxch (groupOffsets sixteen (s.pkt[0].getLsbD 6)).1 (lowRegion s.pkt))
        (groupOffsets sixteen (s.pkt[0].getLsbD 6)).2 (highRegion s.pkt) := rfl

/-- The power level is the power field plus one (rule R265). -/
theorem State.unpackExtended_otaRxPower_toNat (s : State) (sixteen : Bool) :
    (s.unpackExtended sixteen).otaRxPower.toNat = s.pkt[0].toNat / 8 % 8 + 1 := by
  have hpower : (s.unpackExtended sixteen).otaRxPower = (s.pkt[0].extractLsb' 3 3).setWidth 6 + 1 := rfl
  rw [hpower, BitVec.toNat_add, BitVec.toNat_setWidth_of_le (by decide), BitVec.extractLsb'_toNat,
    Nat.shiftRight_eq_div_pow]
  exact Nat.mod_eq_of_lt (by simp; omega)

/-- Settles O53: the flags by definition, and each group by the region that it is unpacked from. -/
theorem otaUnpackExtended : Obligations.OtaUnpackExtended := by
  intro s hvalid hmode hcrc htype h g
  have hready : s.HopReady := State.hopReady_of_ne (by rcases hmode with h | h <;> simp [h])
  have hexec := exec_otaUnpack_of_rc hvalid hready hcrc htype
  rw [State.unpacked_of_extended hmode] at hexec
  have hg : groupOffsets (s.otaMode == .extended16) h = g := groupOffsets_of_mode hmode h
  have hdisjoint : g.1.val + 4 ≤ g.2.val := hg ▸ groupOffsets_disjoint _ h
  have hrxch := s.unpackExtended_rxch (s.otaMode == .extended16)
  rw [hg] at hrxch
  refine ⟨_, hexec, rfl, s.unpackExtended_otaRxPower_toNat (s.otaMode == .extended16), fun k => ?_,
    fun k => ?_, fun k hlow hhigh => ?_⟩
  · change (groupChan (s.unpackExtended (s.otaMode == .extended16)).rxch g.1 k).toNat = _
    rw [hrxch, groupChan_unpackGroup_of_before _ _ hdisjoint, groupChan_unpackGroup_self, dec10Trunc_toNat,
      Nat.mul_comm]
  · change (groupChan (s.unpackExtended (s.otaMode == .extended16)).rxch g.2 k).toNat = _
    rw [hrxch, groupChan_unpackGroup_self, dec10Trunc_toNat, Nat.mul_comm]
  · change (s.unpackExtended (s.otaMode == .extended16)).rxch[k.val] = s.rxch[k.val]
    simp only [hrxch]
    rw [unpackGroup_getElem, if_neg (by omega), unpackGroup_getElem, if_neg (by omega)]

end Sys2Proof.Machine
end

section
/-! Pack, then unpack: a receiver that is configured like the sender passes the CRC of the packet, and the fields come
back within their resolution (rule R267). -/

namespace Sys2Proof.Machine

/-! ## The resolution of a switch -/

/-- The expander's formula fits its eleven bits, so nothing is cut off (rule R263). -/
theorem fromN_toNat {v vmax : Nat} (h : v ≤ vmax) : (fromN v vmax).toNat = v * 1601 / vmax + 191 := by
  have hle : v * 1601 / vmax ≤ 1601 := Nat.div_le_of_le_mul (Nat.mul_le_mul_right 1601 h)
  rw [fromN, BitVec.toNat_ofNat, Config.swLo]
  exact Nat.mod_eq_of_lt (by omega)

/-- The sizes of the switch codes, each with the error that quantising to it leaves (rule R263). -/
def switchResolutions : List (Nat × Nat) := [(8, 200), (16, 100), (64, 25), (128, 13)]

/-- Between the end points the code `v` stands for the values from `1602 * v / n` on; the lowest code is expanded to the
lowest of its values, every other one to a value at most one code step above (rules R207, R263). -/
theorem chanDist_expand_le {n d y : Nat} (hn : (n, d) ∈ switchResolutions) (hy : y ≤ 1601) :
    chanDist (y * n / 1602 * 1601 / (n - 1) + 191) (y + 191) ≤ d := by
  simp only [switchResolutions, List.mem_cons, Prod.mk.injEq, List.not_mem_nil, or_false] at hn
  have hcode : y * n / 1602 ≤ n - 1 := by rcases hn with ⟨rfl, -⟩ | ⟨rfl, -⟩ | ⟨rfl, -⟩ | ⟨rfl, -⟩ <;> omega
  rw [chanDist_le_iff]
  rcases Nat.eq_zero_or_pos (y * n / 1602) with hzero | hpos
  · rw [hzero]
    rcases hn with ⟨rfl, rfl⟩ | ⟨rfl, rfl⟩ | ⟨rfl, rfl⟩ | ⟨rfl, rfl⟩ <;> omega
  · rcases hn with ⟨rfl, rfl⟩ | ⟨rfl, rfl⟩ | ⟨rfl, rfl⟩ | ⟨rfl, rfl⟩ <;> omega

/-- A switch comes back within the resolution of its code, from the value clamped to the end points (rules R207,
R263). -/
theorem chanDist_fromN_toN {n d : Nat} (hn : (n, d) ∈ switchResolutions) (x : Chan) :
    chanDist (fromN (toN x n) (n - 1)).toNat (min (max x.toNat 191) 1792) ≤ d := by
  have h2 : 2 ≤ n := by
    simp only [switchResolutions, List.mem_cons, Prod.mk.injEq, List.not_mem_nil, or_false] at hn
    omega
  have hcode := toN_lt (show 0 < n by omega) x
  rw [fromN_toNat (by omega)]
  unfold toN Config.swLo Config.swHi
  split_ifs with hlo hhi
  · rw [Nat.zero_mul, Nat.zero_div, chanDist_le_iff]
    omega
  · rw [Nat.mul_div_cancel_left _ (by omega), chanDist_le_iff]
    omega
  · have hclamp : min (max x.toNat 191) 1792 = x.toNat - 191 + 191 := by omega
    rw [hclamp]
    exact chanDist_expand_le hn (by omega)

/-! ## Fields of a number -/

/-- The flag that a sum carries at weight `2 ^ n`. -/
theorem getLsbD_of_toNat_eq {w n hi lo : Nat} {x : BitVec w} {flag : Bool}
    (h : x.toNat = 2 ^ (n + 1) * hi + 2 ^ n * flag.toNat + lo) (hlo : lo < 2 ^ n) : x.getLsbD n = flag := by
  have hdiv : x.toNat / 2 ^ n = 2 * hi + flag.toNat := by
    rw [h, show 2 ^ (n + 1) * hi + 2 ^ n * flag.toNat + lo = lo + 2 ^ n * (2 * hi + flag.toNat) by ring,
      Nat.add_mul_div_left _ _ (Nat.two_pow_pos n), Nat.div_eq_of_lt hlo, Nat.zero_add]
  rw [BitVec.getLsbD, Nat.testBit_eq_decide_div_mod_eq, hdiv]
  cases flag <;> simp

theorem extractLsb'_index_toNat (x : Byte) : (x.extractLsb' 3 3).toNat = x.toNat / 8 % 8 := by
  rw [BitVec.extractLsb'_toNat, Nat.shiftRight_eq_div_pow]

/-- A stick channel comes back within 1 of the value clamped to the channel range (rules R205, R261). -/
theorem chanDist_stick_le {p : Vector Byte 13} {ch : Vector Chan 16} (h : lowRegion p = packGroup enc10Limit ch 0)
    (k : Fin 4) :
    chanDist (dec10Limit (packedCode (lowRegion p) k.val)).toNat (min (max ch[k.val].toNat 172) 1811) ≤ 1 := by
  have hchan : groupChan ch 0 k = ch[k.val] := by simp [groupChan]
  rw [h, packedCode_packGroup, hchan]
  exact chanDist_dec10Limit_enc10Limit _

/-! ## The receiver -/

@[simp] theorem State.withPktOf_pkt (r t : State) : (r.withPktOf t).pkt = t.pkt := rfl

/-- Block `r` is set up to receive what block `s` sends: the same mode and initial value, and in mode 1 the same place
in the hop sequence (rule R267). -/
structure State.ConfiguredLike (r s : State) : Prop where
  /-- A mode is selected. -/
  otaValid : r.otaValid = true
  /-- Bank 1 agrees with it. -/
  bank1Matches : r.Bank1Matches
  /-- It is the sender's mode. -/
  otaMode : r.otaMode = s.otaMode
  /-- The initial values of the CRC agree. -/
  otaCrcInit : r.otaCrcInit = s.otaCrcInit
  /-- In mode 1 the hop-sync values agree. -/
  hopSync : s.otaMode = .compactWide → r.otaNonce = s.otaNonce ∧ r.fhssHopInterval = s.fhssHopInterval

/-- Outside mode 1 the substituted header is the type bits alone (rule R226). -/
theorem State.crcHeader_of_ne {s : State} (h : s.otaMode ≠ .compactWide) :
    s.crcHeader = 0#6 ++ s.pkt[0].extractLsb' 0 2 := by
  have hneed : ¬s.needsHopSync = true := fun hneed => h (s.needsHopSync_iff.mp hneed).1
  rw [State.crcHeader, State.crcSub, if_neg hneed]
  rfl

/-- The receiver computes the CRC that the sender did (rules R225, R226). -/
theorem State.ConfiguredLike.pktCrc {r t : State} (h : r.ConfiguredLike t) (hvalid : t.otaValid = true)
    (hbank : t.Bank1Matches) : (r.withPktOf t).pktCrc = t.pktCrc := by
  have hmode : (r.withPktOf t).otaMode = t.otaMode := h.otaMode
  have hinit : (r.withPktOf t).otaCrcInit = t.otaCrcInit := h.otaCrcInit
  have htab : (r.withPktOf t).tab1 = t.tab1 := by
    rw [hbank.tab1_eq hvalid, ← h.otaMode]
    exact h.bank1Matches.tab1_eq h.otaValid
  by_cases hwide : t.otaMode = .compactWide
  · obtain ⟨hnonce, hint⟩ := h.hopSync hwide
    exact State.pktCrc_congr hmode hnonce hint hinit htab fun k hk _ => rfl
  · have hheader : (r.withPktOf t).crcHeader = t.crcHeader := by
      rw [State.crcHeader_of_ne hwide, State.crcHeader_of_ne (hmode ▸ hwide), State.withPktOf_pkt]
    rw [State.pktCrc_eq_crcFold, State.pktCrc_eq_crcFold, State.crcBytes, State.crcBytes, hmode, hinit, htab, hheader,
      State.withPktOf_pkt]

/-- An accepted `OTA.PACK` leaves the sealed packet (rule R203). -/
theorem eq_of_otaPack {s t : State} (hvalid : s.otaValid = true) (hready : s.HopReady)
    (hpack : exec .otaPack s = .next t) : t = s.built.withSeal.accept := by
  rw [exec_otaPack_of_ready hvalid hready] at hpack
  injection hpack with hpack
  exact hpack.symm

/-- The packet passes the CRC of a receiver that is configured like the sender (rules R253, R267). -/
theorem State.ConfiguredLike.crc_passes {r s t : State} (h : r.ConfiguredLike s) (hvalid : s.otaValid = true)
    (hready : s.HopReady) (hbank : s.Bank1Matches) (hpack : exec .otaPack s = .next t) :
    (r.withPktOf t).pktCrc = (r.withPktOf t).storedCrc := by
  obtain rfl := eq_of_otaPack hvalid hready hpack
  have hsealed := otaPack_sealed hbank hpack rfl
  have hlike : r.ConfiguredLike s.built.withSeal.accept := by
    rw [s.built_frame]
    exact ⟨h.otaValid, h.bank1Matches, h.otaMode, h.otaCrcInit, h.hopSync⟩
  rw [hlike.pktCrc hsealed.otaValid hsealed.bank1Matches, hsealed.crc, State.storedCrc, State.storedCrc,
    State.withPktOf_pkt, ← hlike.otaMode]
  rfl

/-! ## The compact family -/

/-- What a packet of modes 0 and 1 carries (rules R121, R204). -/
structure CarriesCompact (s : State) (sw : BitVec 7) (p : Vector Byte 13) : Prop where
  /-- It is an RC-data packet. -/
  type : p[0].extractLsb' 0 2 = 0b00#2
  /-- The four stick channels. -/
  sticks : lowRegion p = packGroup enc10Limit s.ch 0
  /-- The armed bit over the switch field. -/
  switch : p[6].toNat = 128 * s.txArmed.toNat + sw.toNat

theorem carriesCompact_of_otaPack {s t : State} {sw : BitVec 7} (hvalid : s.otaValid = true) (hready : s.HopReady)
    (hc : s.otaMode.isCompact = true) (hpkt : s.built.pkt = s.compactPkt sw) (hpack : exec .otaPack s = .next t) :
    CarriesCompact s sw t.pkt := by
  obtain rfl := eq_of_otaPack hvalid hready hpack
  obtain ⟨htype, hsticks, hswitch⟩ := State.built_sealedPkt_of_compact hc hpkt
  exact ⟨htype, hsticks, hswitch⟩

theorem CarriesCompact.armed {s : State} {sw : BitVec 7} {p : Vector Byte 13} (h : CarriesCompact s sw p) :
    p[6].getLsbD 7 = s.txArmed :=
  getLsbD_of_toNat_eq (hi := 0) (lo := sw.toNat) (by simpa using h.switch) sw.isLt

/-- The telemetry bit of a switch field that has one (rules R210, R216). -/
theorem CarriesCompact.tlm {s : State} {sw : BitVec 7} {p : Vector Byte 13} (h : CarriesCompact s sw p) {v : Nat}
    (hsw : sw.toNat = 64 * s.txTlm.toNat + v) (hv : v < 64) : p[6].getLsbD 6 = s.txTlm := by
  refine getLsbD_of_toNat_eq (hi := s.txArmed.toNat) (lo := v) ?_ hv
  have := h.switch
  omega

/-- Settles O55: the packet passes the receiver's CRC, and each field of it is read where it was written. -/
theorem indexedRoundTrip : Obligations.IndexedRoundTrip := by
  intro s t r hvalid hmode hcursor hbank hrvalid hrmode hrbank hinit hpack
  have hready : s.HopReady := State.hopReady_of_ne (by simp [hmode])
  have hlike : r.ConfiguredLike s := ⟨hrvalid, hrbank, hrmode.trans hmode.symm, hinit, fun h => by simp [hmode] at h⟩
  have hcarries := carriesCompact_of_otaPack hvalid hready (by rw [hmode]; rfl)
    (congrArg State.pkt (State.built_of_indexed hmode)) hpack
  have hfield := State.indexedField_toNat hcursor
  have hv := indexedValue_lt s
  have hlt := index_and_value_lt hcursor hv
  obtain ⟨u, hexec, hframe, hsticks, hlast, hother, -⟩ :=
    otaUnpackIndexed (r.withPktOf t) hrvalid hrmode (hlike.crc_passes hvalid hready hbank hpack) hcarries.type
  have hbyte := hcarries.switch
  have hindex := extractLsb'_index_toNat t.pkt[6]
  simp only [State.withPktOf_pkt, hindex] at hframe hsticks hlast hother
  refine ⟨u, hexec, by rw [hframe], by rw [hframe], by rw [hframe], ?_, ?_, fun k => ?_, fun h6 => ?_, fun j hj => ?_⟩
  · rw [hframe]
    exact hcarries.armed
  · rw [hframe]
    exact hcarries.tlm (hfield.trans (Nat.add_assoc _ _ _)) hlt
  · rw [hsticks k]
    exact chanDist_stick_le hcarries.sticks k
  · rw [if_pos h6] at hfield
    rw [if_pos h6, if_pos h6] at hv
    have hcode : t.pkt[6].toNat % 16 = toN s.ch[11] 16 := by omega
    rw [hlast (by omega), hcode]
    exact chanDist_fromN_toN (n := 16) (by decide) _
  · have hne : s.swIdx.toNat ≠ 6 := by omega
    rw [if_neg hne] at hfield
    rw [if_neg hne, if_neg hne] at hv
    have hcode : t.pkt[6].toNat % 8 = toN s.ch[switchChan s.swIdx] 8 := by omega
    have hchan : s.ch[switchChan s.swIdx] = s.ch[5 + j.val] := by
      simp only [Fin.getElem_fin, switchChan_val, hj]
    rw [hother j (by omega), hcode, hchan]
    exact chanDist_fromN_toN (n := 8) (by decide) _

/-- Settles O56: as in mode 0, each form of the switch byte with its own fields. -/
theorem wideRoundTrip : Obligations.WideRoundTrip := by
  intro s t r hvalid hmode hready hbank hrvalid hrmode hrbank hinit hnonce hdenom hint hpack i every
  have hlike : r.ConfiguredLike s := ⟨hrvalid, hrbank, hrmode.trans hmode.symm, hinit, fun _ => ⟨hnonce, hint⟩⟩
  have hrready : (r.withPktOf t).HopReady := fun _ => hint ▸ hready hmode
  have hcarries := carriesCompact_of_otaPack hvalid hready (by rw [hmode]; rfl)
    (congrArg State.pkt (State.built_of_wide hmode)) hpack
  obtain ⟨u, hexec, hframe, htlm, -, hpower, -, hsticks, hsix, hseven, -⟩ :=
    otaUnpackWide (r.withPktOf t) hrvalid hrmode hrready (hlike.crc_passes hvalid hready hbank hpack) hcarries.type
  have hrnonce : (r.withPktOf t).otaNonce = s.otaNonce := hnonce
  have hrdenom : (r.withPktOf t).otaTlmDenom = s.otaTlmDenom := hdenom
  have hbyte := hcarries.switch
  have hpowerlt := s.otaUplinkPower.isLt
  simp only [State.withPktOf_pkt, hrnonce, hrdenom] at hframe htlm hpower hsticks hsix hseven
  have hchan (j : Fin 7) (hj : i = j.val) : s.ch[switchChan (wideIndex s.otaNonce)] = s.ch[5 + j.val] := by
    simp only [Fin.getElem_fin, switchChan_val]
    congr 1
    omega
  refine ⟨u, hexec, by rw [hframe], by rw [hframe], by rw [hframe], ?_, fun h => ?_, fun h7 => ?_, fun k => ?_,
    fun j hj => ?_⟩
  · rw [hframe]
    exact hcarries.armed
  · rw [htlm h]
    by_cases h7 : i = 7
    · exact hcarries.tlm (State.wideField_toNat_of_seven h7) hpowerlt
    · exact hcarries.tlm (State.wideField_toNat_of_every h7 (h.resolve_right h7)) (toN_lt (by decide) _)
  · have hfield := State.wideField_toNat_of_seven h7
    have hcode := hpower h7
    exact BitVec.eq_of_toNat_eq (by omega)
  · rw [hsticks k]
    exact chanDist_stick_le hcarries.sticks k
  · have h7 : i ≠ 7 := by omega
    by_cases hevery : every
    · have hfield := State.wideField_toNat_of_every h7 hevery
      have hv := toN_lt (show 0 < 64 by decide) s.ch[switchChan (wideIndex s.otaNonce)]
      have hcode : t.pkt[6].toNat % 64 = toN s.ch[switchChan (wideIndex s.otaNonce)] 64 := by omega
      rw [hsix j hj hevery, hcode, hchan j hj, if_pos hevery]
      exact chanDist_fromN_toN (n := 64) (by decide) _
    · have hfield := State.wideField_toNat_of_not_every h7 hevery
      have hv := toN_lt (show 0 < 128 by decide) s.ch[switchChan (wideIndex s.otaNonce)]
      have hcode : t.pkt[6].toNat % 128 = toN s.ch[switchChan (wideIndex s.otaNonce)] 128 := by omega
      rw [hseven j hj hevery, hcode, hchan j hj, if_neg hevery]
      exact chanDist_fromN_toN (n := 128) (by decide) _

/-! ## The extended family -/

/-- Settles O57: the header by its fields, and each group where the aux half says that it was written. -/
theorem extendedRoundTrip : Obligations.ExtendedRoundTrip := by
  intro s t r hvalid hmode hbank hrvalid hrmode hrbank hinit hpack g
  have hne : s.otaMode ≠ .compactWide := by rcases hmode with h | h <;> simp [h]
  have hready : s.HopReady := State.hopReady_of_ne hne
  have hlike : r.ConfiguredLike s := ⟨hrvalid, hrbank, hrmode, hinit, fun h => absurd h hne⟩
  obtain ⟨t', hpack', -, hheader, hlow, hhigh, -⟩ := otaPackExtended s hvalid hmode hbank
  obtain rfl : t' = t := by
    rw [hpack] at hpack'
    injection hpack' with h
    exact h.symm
  generalize hlevel : min (max s.otaUplinkPower.toNat 1) 8 - 1 = level at hheader
  have htlm := s.txTlm.toNat_le
  have hhalf := s.auxHalf.toNat_le
  have htype : t'.pkt[0].extractLsb' 0 2 = 0b00#2 := by
    apply BitVec.eq_of_toNat_eq
    rw [BitVec.extractLsb'_toNat, Nat.shiftRight_zero, BitVec.toNat_ofNat]
    omega
  have hhalfbit : t'.pkt[0].getLsbD 6 = s.auxHalf :=
    getLsbD_of_toNat_eq (hi := s.txArmed.toNat) (lo := 4 * s.txTlm.toNat + 8 * level) (by omega) (by omega)
  have hrm : (r.withPktOf t').otaMode = s.otaMode := hrmode
  obtain ⟨u, hexec, hframe, hpower, hrlow, hrhigh, -⟩ :=
    otaUnpackExtended (r.withPktOf t') hrvalid (hrm ▸ hmode) (hlike.crc_passes hvalid hready hbank hpack) htype
  simp only [State.withPktOf_pkt, hrm, hhalfbit] at hframe hpower hrlow hrhigh
  rw [← groupOffsets_of_mode hmode] at hlow hhigh hrlow hrhigh
  refine ⟨u, hexec, by rw [hframe], by rw [hframe], by rw [hframe], ?_, ?_, by rw [hframe], ?_, fun k => ?_,
    fun k => ?_⟩
  · rw [hframe]
    exact getLsbD_of_toNat_eq (hi := 0) (lo := 4 * s.txTlm.toNat + 8 * level + 64 * s.auxHalf.toNat) (by omega)
      (by omega)
  · rw [hframe]
    exact getLsbD_of_toNat_eq (hi := level + 8 * s.auxHalf.toNat + 16 * s.txArmed.toNat) (lo := 0) (by omega)
      (by omega)
  · rw [hpower]
    omega
  · rw [hrlow k, hlow k, Nat.mul_comm]
  · rw [hrhigh k, hhigh k, Nat.mul_comm]

end Sys2Proof.Machine
end

section
/-! The exception, seen from the state: what any refusal leaves (rules R281, R285), and what no command changes while a
transmission is in flight (rules R284, R320). -/

namespace Sys2Proof.Machine

/-! ## A refusal writes the error registers alone -/

/-- An accepted command leaves `RESULT` at 0, `SYS.RESET` included (rules R140, R142). -/
theorem Accepted.result_ok {s t : State} {i : Instr} (h : Accepted s i t) : t.result = .ok := by
  by_cases hi : i = .sysReset
  · subst hi
    cases h
    rfl
  · obtain ⟨hok, -, -⟩ := h.errors hi
    exact hok

/-- A command that leaves a nonzero `RESULT` was refused (rules R140, R281). -/
theorem refusedTo_of_exec {i : Instr} {s t : State} (hres : t.result ≠ .ok) (h : exec i s = .next t) :
    s.RefusedTo t :=
  (exec_cases h).resolve_right fun hacc => hres hacc.result_ok

/-- A word written to `CMD` that leaves a nonzero `RESULT` was refused: as a command, or as illegal (rules R281,
R285). -/
theorem refusedTo_of_runCommand {w : Word} {s t : State} (hres : t.result ≠ .ok) (h : runCommand w s = .next t) :
    s.RefusedTo t := by
  cases hdec : decode w with
  | ok i => exact refusedTo_of_exec hres ((runCommand_of_decode hdec s).symm.trans h)
  | error e =>
    rw [runCommand_of_illegal hdec] at h
    injection h with h
    exact ⟨.eOpcode, nofun, h.symm⟩

theorem State.RefusedTo.frame {s t : State} (h : s.RefusedTo t) :
    t = { s with
      result := t.result, err := true
      firstErr := if s.firstErr = .ok then t.result else s.firstErr } := by
  obtain ⟨c, -, rfl⟩ := h
  rfl

/-- Settles O19: a nonzero `RESULT` after a command or a command word is that of a refusal. -/
theorem refusalChangesNothingElse : Obligations.RefusalChangesNothingElse := by
  rintro s t hres (⟨i, h⟩ | ⟨w, h⟩)
  · exact (refusedTo_of_exec hres h).frame
  · exact (refusedTo_of_runCommand hres h).frame

/-- Settles O5: an illegal word reaches no command, and no check of one. -/
theorem illegalWordRefusedWhateverTheState : Obligations.IllegalWordRefusedWhateverTheState := by
  intro s w rest e hp hdec
  calc step s = access (commandWrite w) { s with pending := rest } := step_of_pending hp
    _ = runCommand w { s with pending := rest } := access_commandWrite w _
    _ = .next (({ s with pending := rest } : State).refuse .eOpcode) := runCommand_of_illegal hdec _

/-! ## A transmission in flight -/

/-- The two states agree on `CTRL.TX_INFLIGHT`, the codec and the schedule with its latched registers, all but the
schedule's pointer (rule R320). -/
def State.SameCodecAndSchedule (s t : State) : Prop :=
  t.txInflight = s.txInflight ∧ t.otaMode = s.otaMode ∧ t.otaValid = s.otaValid ∧ t.tab1 = s.tab1 ∧
    t.crc1Cfg = s.crc1Cfg ∧ t.seq = s.seq ∧ t.fhssSeqCount = s.fhssSeqCount ∧ t.fhssActCount = s.fhssActCount ∧
    t.fhssSync = s.fhssSync ∧ t.fhssSpread = s.fhssSpread ∧ t.fhssActStart = s.fhssActStart ∧
    t.fhssValid = s.fhssValid

theorem State.SameCodecAndSchedule.refl (s : State) : s.SameCodecAndSchedule s := by
  simp [State.SameCodecAndSchedule]

/-- Only `SYS.RESET`, `FHSS.BUILD` and `OTA.CONFIG` write the codec or the schedule (rule R144). -/
theorem Accepted.sameCodecAndSchedule {s t : State} {i : Instr} (h : Accepted s i t) (hreset : i ≠ .sysReset)
    (hbuild : i ≠ .fhssBuild) (hconfig : ∀ m, i ≠ .otaConfig m) : s.SameCodecAndSchedule t := by
  cases h with
  | sysReset => exact absurd rfl hreset
  | fhssBuild => exact absurd rfl hbuild
  | otaConfig n => exact absurd rfl (hconfig n)
  | otaPack => rw [s.built_frame]; exact .refl s
  | otaUnpack => rw [s.unpacked_frame]; exact .refl s
  | _ => exact .refl s

theorem exec_fhssBuild_of_inflight {s : State} (htx : s.txInflight = true) :
    exec .fhssBuild s = .next (s.refuse .eTxInflight) := by
  rw [exec_fhssBuild, if_pos htx]

theorem exec_otaConfig_of_inflight {s : State} (htx : s.txInflight = true) (m : Nat) :
    exec (.otaConfig m) s = .next (s.refuse .eTxInflight) := by
  rw [exec_otaConfig, if_pos htx]

/-- An accepted command is none of those that the state refuses. -/
theorem Accepted.ne_of_refused {s t : State} {i j : Instr} {c : Code} (h : Accepted s i t) (ht : exec i s = .next t)
    (hrefused : exec j s = .next (s.refuse c)) (hc : c ≠ .ok) : i ≠ j := by
  rintro rfl
  rw [ht] at hrefused
  injection hrefused with hrefused
  subst hrefused
  exact hc h.result_ok

/-- While a transmission is in flight only `SYS.RESET` changes the codec or the schedule (rules R284, R320). -/
theorem sameCodecAndSchedule_of_inflight {s t : State} {i : Instr} (htx : s.txInflight = true)
    (hreset : i ≠ .sysReset) (h : exec i s = .next t) : s.SameCodecAndSchedule t := by
  rcases exec_cases h with ⟨c, -, rfl⟩ | hacc
  · exact .refl s
  · exact hacc.sameCodecAndSchedule hreset (hacc.ne_of_refused h (exec_fhssBuild_of_inflight htx) nofun)
      fun m => hacc.ne_of_refused h (exec_otaConfig_of_inflight htx m) nofun

/-- Settles O23: the two commands that would change the codec or the schedule are refused, and no other writes it. -/
theorem inFlightFreezesCodecAndSchedule : Obligations.InFlightFreezesCodecAndSchedule := by
  intro s htx
  refine ⟨exec_fhssBuild_of_inflight htx, exec_otaConfig_of_inflight htx, fun i t hreset h => ?_⟩
  obtain ⟨hflight, hkept⟩ := sameCodecAndSchedule_of_inflight htx hreset h
  exact ⟨hflight.trans htx, hkept⟩

end Sys2Proof.Machine
end

section
/-! The reset state and the two ways into it: the event `reset` and the command `SYS.RESET` (rules R310, R311). -/

namespace Sys2Proof.Machine

/-! ## The reset state -/

/-- Settles O15: the registers, the computed ones included, and then the arrays. -/
theorem resetReadsZeroEverywhere : Obligations.ResetReadsZeroEverywhere := State.readLoc_reset

/-- No command has been refused since reset (rules R27, R35, R36). -/
theorem reset_errMirrors : State.reset.ErrMirrors :=
  ⟨by simp, fun hres => absurd State.reset_result hres⟩

theorem reset_cursorInCycle : State.reset.CursorInCycle := by
  rw [State.CursorInCycle, State.reset_swIdx]
  decide

/-- No schedule has been built, and the schedule registers are those of none (rules R48 to R51, R71). -/
theorem reset_scheduleMatches : State.reset.ScheduleMatches := by
  rw [State.ScheduleMatches, if_neg (by simp)]
  exact ⟨State.reset_seq, State.reset_fhssSeqCount, State.reset_fhssActCount, State.reset_fhssSync,
    State.reset_fhssPtr, State.reset_fhssSpread, State.reset_fhssActStart⟩

/-- Settles O58: all flags are 0, so each relation asks for reset values alone. -/
theorem resetIsCoherent : Obligations.ResetIsCoherent where
  errMirrors := reset_errMirrors
  cursorInCycle := reset_cursorInCycle
  bank0Matches := reset_bank0Matches
  bank1Matches := reset_bank1Matches
  scheduleMatches := reset_scheduleMatches

/-! ## The two resets -/

theorem access_reset (s : State) : access .reset s = .next s.blockReset := rfl

/-- The reset event resets the block and is taken off the port (rule R310). -/
theorem step_resetEvent {s : State} {rest : List Access} (hp : s.pending = .reset :: rest) :
    step s = .next ({ s with pending := rest } : State).blockReset := by
  rw [step_of_pending hp, access_reset]

/-- A write of the one command word of `SYS.RESET` does what the reset event does (rules R142, R310). -/
theorem step_sysReset {s : State} {rest : List Access} (hp : s.pending = commandWrite 0x00000001#32 :: rest) :
    step s = .next ({ s with pending := rest } : State).blockReset := by
  have hdec : decode 0x00000001#32 = .ok .sysReset := by decide
  rw [stepRunsDecodedCommand s _ rest _ hp hdec, exec_sysReset, State.accept_blockReset]

/-- Settles O16: either step gives `blockReset` of the state with the access taken off the port. -/
theorem bothResetsGiveTheResetState : Obligations.BothResetsGiveTheResetState := by
  intro s rest
  rw [← State.blockReset_eq { s with pending := rest }]
  exact ⟨step_resetEvent, step_sysReset⟩

end Sys2Proof.Machine
end
